-- ==== Sys2Proof/Word.lean ====
section
/-! DEFINITION. The words of the Track Link: bytes, 16-bit table and argument words, and the 11-bit link character
(spec/12_formats_and_signals.md R165). -/

namespace Sys2Proof

/-- One byte of a frame (R165). -/
abbrev Byte := BitVec 8

/-- A 16-bit word: a table word, an argument word, a pitch number or a check sequence (R165). -/
abbrev Word := BitVec 16

/-- One character on the link, bit i being the content of bit time i (R165): bit 0 the start bit, bits 1..8 the data
bits with the least significant first, bit 9 the mark bit, bit 10 the parity bit. -/
abbrev LinkChar := BitVec 11

end Sys2Proof
end

