-- ==== Sys2Proof/Syntax.lean ====
section
/-! DEFINITION. The commands of the SC-18: one constructor of `Instr` for each row of spec/opcode_table.json, with the
values the row's event carries. -/

namespace Sys2Proof

/-- The sense of one encoder report (R1). -/
inductive Direction where
  | forward
  | backward
deriving DecidableEq, Repr

/-- The status a drive reports (R72). -/
inductive DriveStatus where
  | ok
  | fault
deriving DecidableEq, Repr

/-- A reply received in a head slot (R72): the head it names, the status, torque and spindle angle it carries, the bytes
received before its check sequence and the check sequence received. The manual gives the fields but not their places in
the bytes (DESIGN CHOICE, notes/assumptions/5.md). -/
structure Reply where
  head : Nat
  status : DriveStatus
  torque : BitVec 11
  angle : BitVec 12
  body : List Byte
  check : Word
deriving DecidableEq, Repr

/-- The commands, in the order of the table. -/
inductive Instr where
  /-- ENCODER_REPORT (R1): one count, with the levels of the infeed jar eye (true = blocked) and of the twelve
  cap-present switches (bit k = switch k on) as they stand at the report. -/
  | encoderReport (direction : Direction) (infeedEye : Bool) (capSwitches : BitVec 12)
  /-- STANDSTILL_EXPIRY (R6). -/
  | standstillExpiry
  /-- FLUSH_MILLISECOND_TICK (R58): true = the steam-pressure switch reads OK. -/
  | flushMillisecondTick (steamOk : Bool)
  /-- HEAD_BUS_SYNC_SLOT (R69). -/
  | headBusSyncSlot
  /-- HEAD_SLOT_START (R70) of head k. -/
  | headSlotStart (head : Fin 12)
  /-- HEAD_BUS_SLOT_ARRIVAL (R72) of head k; none = no reply came within the slot. -/
  | headBusSlotArrival (head : Fin 12) (reply : Option Reply)
  /-- JAR_EYE_EDGE (R112). -/
  | jarEyeEdge
  /-- SENSOR_SAMPLE_ARRIVAL (R110): the sample, a two's-complement value −4096..4095. -/
  | sensorSampleArrival (sample : BitVec 13)
  /-- FRAME_ARRIVAL (R136): the characters received, in order, up to the one at which the frame ends. -/
  | frameArrival (chars : List LinkChar)
  /-- TRANSMIT_COMPLETION (R143). -/
  | transmitCompletion
  /-- DOWNSTREAM_HOLD_ASSERTED (R143). -/
  | downstreamHoldAsserted
  /-- DOWNSTREAM_HOLD_RELEASED (R145). -/
  | downstreamHoldReleased
  /-- STATUS (R151). -/
  | status (tag : Byte)
  /-- FAULTS (R152). -/
  | faults (tag : Byte)
  /-- CLEAR_FAULT (R162): the fault code byte. -/
  | clearFault (tag : Byte) (code : Byte)
  /-- CURSOR (R154): which cursor (0 read, 1 write), the table number, the index. -/
  | cursor (tag : Byte) (which : Byte) (table : Byte) (index : Word)
  /-- WRITE (R155): the count carried and the words carried. -/
  | write (tag : Byte) (count : Byte) (words : List Word)
  /-- READ (R155): the count. -/
  | read (tag : Byte) (count : Byte)
  /-- COMMIT (R98): the expected signature. -/
  | commit (tag : Byte) (signature : Word)
  /-- HEAD_SERVICE (R49): the head byte and the value byte (0 IN, 1 OUT). -/
  | headService (tag : Byte) (head : Byte) (value : Byte)
  /-- SEED_AUDIT (R128). -/
  | seedAudit (tag : Byte) (value : Word)
  /-- CLEAR_TALLIES (R133). -/
  | clearTallies (tag : Byte)
  /-- RESET_STATION (R158). -/
  | resetStation (tag : Byte)
  /-- UNKNOWN_REQUEST (R149): the payload of the REQ frame. -/
  | unknownRequest (payload : List Byte)
  /-- COLD_RESET (R12): the levels of the six address straps (R159). -/
  | coldReset (straps : BitVec 6)
  /-- CHARACTER_ARRIVAL (R136). -/
  | characterArrival (char : LinkChar)
deriving DecidableEq, Repr

end Sys2Proof
end

