-- ==== Sys2Proof/Decode.lean ====
section
/-! DEFINITION. The rows of spec/opcode_table.json give no bits ("fields" is empty and there is no match or mask in any
of them), so no word spells a command (notes/assumptions/21.md). -/

namespace Sys2Proof

/-- The command that a word of nbits bits spells by the table: none, for every word. -/
def decodeTableWord (_nbits _w : Nat) : Option Instr := none

end Sys2Proof
end

