-- ==== Sys2Proof/Config.lean ====
section
/-! DEFINITION. What the manual fixes by number for every SC-18, and the one value it leaves open. -/

namespace Sys2Proof.Config

/-- Turret counts in one revolution (R1). -/
abbrev countsPerRevolution : Nat := 3600

/-- Turret counts in one pitch, the spacing of two heads (R2, R3). -/
abbrev countsPerPitch : Nat := 300

/-- The head angle of the exit (R2, R47). -/
abbrev exitAngle : Nat := 3000

/-- The standstill time in milliseconds (R6). -/
abbrev standstillTime : Nat := 50

/-- Records the Infeed Queue holds at most (R18). -/
abbrev infeedCapacity : Nat := 24

/-- Entries the Outfeed Line holds at most (R106). -/
abbrev outfeedCapacity : Nat := 20

/-- Frames the Pass FIFO holds at most (R141). -/
abbrev passCapacity : Nat := 12

/-- Frames the Transmit Queue holds at most (R144). -/
abbrev transmitCapacity : Nat := 8

/-- Payload characters a frame carries at most (R136, R138). -/
abbrev longestPayload : Nat := 48

/-- Outcomes the discard window holds at most (R139). -/
abbrev windowCapacity : Nat := 256

/-- FREE VALUE (DESIGN CHOICE, notes/assumptions/8.md, safe): whether a frame whose address is 64..255 and whose source
is not the station's own is forwarded (true) or dropped (false). No row of R140 applies to such a frame. The arguments
are the frame's address, source and kind. -/
opaque forwardsUnlisted : Byte → Byte → Byte → Bool

end Sys2Proof.Config
end

