-- ==== Sys2Proof/Machine/Types.lean ====
section
/-! DEFINITION. The values the blocks of the station hold, with the manual's names. -/

namespace Sys2Proof.Machine

/-- Motion state (R6). -/
inductive Motion where
  | stopped
  | moving
deriving DecidableEq, Repr

/-- Sync state (R9). -/
inductive Sync where
  | unsynced
  | synced
deriving DecidableEq, Repr

/-- Service of a head (R32). -/
inductive Service where
  | inService
  | outOfService
deriving DecidableEq, Repr

/-- State of a head context (R32). -/
inductive HeadState where
  | empty
  | loaded
  | flushing
  | flushed
  | capped
  | torquing
  | settled
deriving DecidableEq, Repr

/-- The two recipe banks (R90). -/
inductive BankId where
  | a
  | b
deriving DecidableEq, Repr

/-- Role of a bank (R91). -/
inductive Role where
  | live
  | spare
  | retiring
deriving DecidableEq, Repr

/-- Flush result NONE, FULL, UNDER (R33). -/
inductive FlushResult where
  | noResult
  | full
  | under
deriving DecidableEq, Repr

/-- Closure result (R33). -/
inductive Closure where
  | pending
  | seated
  | underTorque
  | overTorque
  | crossThread
  | notCapped
  | headLost
  | noRecipe
  | untracked
deriving DecidableEq, Repr

/-- Seal verdict (R117, R121); noVerdict is the verdict NONE. -/
inductive SealVerdict where
  | sealed
  | leak
  | weak
  | overdrawn
  | noMeasurement
  | noVerdict
deriving DecidableEq, Repr

/-- The twelve reject causes, in the order of R125. -/
inductive RejectCause where
  | upstream
  | untracked
  | noRecipe
  | headLost
  | notCapped
  | overTorque
  | crossThread
  | underTorque
  | noMeasurement
  | leak
  | weak
  | overdrawn
deriving DecidableEq, Repr

/-- Disposition of a jar (R126). -/
inductive Disposition where
  | pass
  | audit
  | reject (cause : RejectCause)
deriving DecidableEq, Repr

/-- Head bus command; RUN carries the drive's limit (R70, R71). -/
inductive HeadCommand where
  | idle
  | run (limit : Nat)
  | hold
  | release
deriving DecidableEq, Repr

/-- Release hold (R68); free is the value "none". -/
inductive ReleaseHold where
  | free
  | toPitch
  | toLoad
deriving DecidableEq, Repr

/-- One annotation of a jar record (R14). -/
structure Annotation where
  station : Byte
  code : Byte
  valueA : Word
  valueB : Word
deriving DecidableEq, Repr

/-- A jar record (R14). -/
structure JarRecord where
  pitch : Word
  serial : BitVec 32
  recipe : Byte
  verdict : Byte
  tempPresent : Bool
  temp : Word
  annotations : List Annotation
deriving DecidableEq, Repr

/-- The jar part of a head context (R33). -/
structure Jar where
  record : JarRecord
  tracked : Bool
  tag : Option BankId
  usable : Bool
  effectiveTemp : Option Nat
  flushAccrued : Nat
  flushResult : FlushResult
  closure : Closure
  seatTorque : Nat
  maxTorque : Nat
  finalAngle : Nat
  missed : Nat
deriving DecidableEq, Repr

/-- A head context (R32). -/
structure Head where
  service : Service
  pendingService : Option Service
  state : HeadState
  jar : Option Jar
deriving DecidableEq, Repr

/-- What the Spindle Unit holds for one head (R68). -/
structure Spindle where
  command : HeadCommand
  releaseHold : ReleaseHold
  run : Nat
  sum : Nat
  misses : Nat
  lastTorque : Nat
  lastAngle : Nat
deriving DecidableEq, Repr

/-- What one slot of the head bus brings (R72). -/
inductive SlotOutcome where
  | okReply (torque angle : Nat)
  | faultReply
  | missed
deriving DecidableEq, Repr

/-- The words of a recipe, in the order of R87. -/
inductive RecipeField where
  | valid
  | flushStart
  | flushEnd
  | flushTime
  | applyAngle
  | torqueStart
  | torqueEnd
  | torqueTarget
  | torqueCeiling
  | seatCount
  | angleLimit
  | baseDeflection
  | slope
  | referenceTemp
  | defaultTemp
  | weakRatio
  | leakFloor
  | overdrawMargin
  | auditExponent
  | capType
deriving DecidableEq, Repr

/-- The words of CONFIG, in the order of R156. -/
inductive ConfigWord where
  | pitchOffset
  | outfeedDelay
  | nextStation
  | chuteType
  | settleCount
  | rejectRunLimit
  | localFirst
deriving DecidableEq, Repr

/-- The eight management tables (R153). -/
inductive Table where
  | live
  | spare
  | retiring
  | lead
  | config
  | tallies
  | sampleRing
  | heads
deriving DecidableEq, Repr

/-- A cursor (R97). -/
structure Cursor where
  table : Table
  index : Nat
deriving DecidableEq, Repr

/-- A bank with its in-flight count (R90, R92). -/
structure Bank where
  words : Vector Word 160
  inFlight : Nat
deriving DecidableEq, Repr

/-- An entry of the Outfeed Line (R106). -/
structure OutfeedEntry where
  jar : Jar
  exitPitch : Word
  duePitch : Word
deriving DecidableEq, Repr

/-- The measurement window (R112). -/
inductive Window where
  | closed
  | settling (settle skipped : Nat)
  | collecting (samples : List Int) (clamped : Nat)
deriving DecidableEq, Repr

/-- A frame as made: the bytes before its check sequence (R136, R165). The length byte is the payload's length. -/
structure Frame where
  address : Byte
  source : Byte
  kind : Byte
  payload : List Byte
deriving DecidableEq, Repr

/-- A frame with its check sequence: as received, or as sent. -/
structure SealedFrame where
  frame : Frame
  check : Word
deriving DecidableEq, Repr

/-- Receiver state (R136), with the characters of the frame being collected, oldest first. -/
inductive Receiver where
  | hunt
  | collect (chars : List LinkChar)
deriving DecidableEq, Repr

/-- Causes of a discard (R138, R139). -/
inductive DiscardCause where
  | overLength
  | parity
  | checkSequence
  | passFull
  | abandoned
deriving DecidableEq, Repr

/-- What dispatch does with a frame that passed the checks (R140); removal of a circled frame is drop. -/
inductive DispatchAction where
  | toInfeed
  | toManagement
  | drop
  | trackAndForward
  | forward
deriving DecidableEq, Repr

/-- The sixteen fault codes (R160). -/
inductive FaultCode where
  | linkNoise
  | linkBlocked
  | infeedStale
  | infeedOverflow
  | pitchSkew
  | ghostRecord
  | strayJar
  | recipeUnusable
  | capMissing
  | capTypeMismatch
  | steamLow
  | headDriveFault
  | headLinkLost
  | sensorSaturated
  | sensorUnmatched
  | rejectRun
deriving DecidableEq, Repr

/-- An entry of the fault list or of the overflow set: code, raised-at pitch, detail (R160). -/
structure FaultEntry where
  code : FaultCode
  pitch : Word
  detail : Byte
deriving DecidableEq, Repr

/-- The Fault List (R161): the list head first, and the overflow set held in increasing order of code
(notes/assumptions/15.md). -/
structure FaultList where
  list : List FaultEntry
  overflow : List FaultEntry
deriving DecidableEq, Repr

/-- What the characters collected so far amount to (R136): more to come, ended at an over-length character, or a
complete frame with whether any of its characters had a parity error. -/
inductive FrameEnd where
  | more
  | overLength
  | complete (frame : SealedFrame) (parityError : Bool)
deriving DecidableEq, Repr

/-- Response statuses (R149). -/
inductive Status where
  | ok
  | accepted
  | busy
  | badTable
  | badArg
  | signatureMismatch
  | recipeInvalid
  | unknownRequest
  | lengthError
deriving DecidableEq, Repr

/-- What the payload of a REQ frame asks for (R150), or the status and the code and tag of its refusal by tests 1 to 3 of
R149. -/
inductive Request where
  | status (tag : Byte)
  | faults (tag : Byte)
  | clearFault (tag code : Byte)
  | cursor (tag which table : Byte) (index : Word)
  | write (tag count : Byte) (words : List Word)
  | read (tag count : Byte)
  | commit (tag : Byte) (signature : Word)
  | headService (tag head value : Byte)
  | seedAudit (tag : Byte) (value : Word)
  | clearTallies (tag : Byte)
  | resetStation (tag : Byte)
  | refused (code tag : Byte) (st : Status)
deriving DecidableEq, Repr

end Sys2Proof.Machine
end

