-- ==== Sys2Proof/Machine/Formats.lean ====
section
/-! DEFINITION. The byte and bit layouts of spec/12_formats_and_signals.md (R165), the check sequence of R93 and the
codes that enumerated fields carry. -/

namespace Sys2Proof.Machine

/-! ### Bytes and words, high byte first (R165) -/

def highByte (w : Word) : Byte := (w >>> 8).setWidth 8

def lowByte (w : Word) : Byte := w.setWidth 8

def wordOf (high low : Byte) : Word := high ++ low

def wordBytes (w : Word) : List Byte := [highByte w, lowByte w]

/-- The words of a run of bytes; a last odd byte is left out. -/
def wordsOf : List Byte → List Word
  | h :: l :: rest => wordOf h l :: wordsOf rest
  | _ => []

def byteOfNat (n : Nat) : Byte := BitVec.ofNat 8 n

def wordOfNat (n : Nat) : Word := BitVec.ofNat 16 n

/-! ### The check sequence (R93) -/

/-- One shift of the register toward its most significant end. -/
def crcShift (r : Word) : Word := if r.msb then (r <<< 1) ^^^ 0x1021#16 else r <<< 1

/-- One byte taken into the register. -/
def crcByte (r : Word) (b : Byte) : Word :=
  (List.range 8).foldl (fun x _ => crcShift x) (r ^^^ (b.setWidth 16 <<< 8))

/-- The check value over a run of bytes (R93). -/
def crc16 (bs : List Byte) : Word := bs.foldl crcByte 0xFFFF#16

/-- A reply's check passes when the check sequence received equals the one computed over the bytes before it (R72). -/
def replyCheckPasses (r : Reply) : Bool := crc16 r.body == r.check

/-! ### The link character (R135, R165) -/

def charData (c : LinkChar) : Byte := c.extractLsb' 1 8

def charMark (c : LinkChar) : Bool := c.getLsbD 9

/-- Whether bits 1..10 hold an odd number of ones. -/
def charOdd (c : LinkChar) : Bool := (List.range 10).foldl (fun p i => p ^^ c.getLsbD (i + 1)) false

/-- The idle character: data bits, mark bit and parity bit all 0 (R135). -/
def charIdle (c : LinkChar) : Bool := c.extractLsb' 1 10 == 0#10

/-- A parity error of a character that is not idle (R135). -/
def charParityError (c : LinkChar) : Bool := !charIdle c && !charOdd c

/-- The character that carries a byte: start bit 1, odd parity over data and mark (R135, R165). -/
def linkChar (data : Byte) (mark : Bool) : LinkChar :=
  let odd := (List.range 8).foldl (fun p i => p ^^ data.getLsbD i) mark
  BitVec.ofBool (!odd) ++ BitVec.ofBool mark ++ data ++ 1#1

/-- The idle character as sent. -/
def idleChar : LinkChar := 1#11

/-! ### Frames (R136, R165) -/

/-- Frame kinds (R165). -/
def kindPitch : Byte := 1
def kindJar : Byte := 2
def kindReq : Byte := 3
def kindRsp : Byte := 4

/-- The line master's address (R136). -/
def lineMaster : Byte := 63

/-- The bytes of a frame before its check sequence. -/
def frameBytes (f : Frame) : List Byte :=
  f.address :: f.source :: f.kind :: byteOfNat f.payload.length :: f.payload

/-- A frame with the check sequence computed over it (R144, R165). -/
def sealFrame (f : Frame) : SealedFrame := ⟨f, crc16 (frameBytes f)⟩

/-- The check sequence received equals the one computed over the frame (R138). -/
def frameCheckPasses (s : SealedFrame) : Bool := crc16 (frameBytes s.frame) == s.check

/-- All bytes of a frame in the order sent. -/
def sealedBytes (s : SealedFrame) : List Byte := frameBytes s.frame ++ wordBytes s.check

/-- The characters of a frame: the mark bit on the address character only (R135). -/
def frameChars (s : SealedFrame) : List LinkChar :=
  match sealedBytes s with
  | [] => []
  | b :: bs => linkChar b true :: bs.map (fun x => linkChar x false)

/-- Where the characters collected so far stand (R136): the fourth is the length whatever its parity; 49 or more ends
the frame there; otherwise it ends at character 6 + length. -/
def examineChars (cs : List LinkChar) : FrameEnd :=
  match cs.map charData with
  | address :: source :: kind :: length :: rest =>
    if Config.longestPayload < length.toNat then .overLength
    else if length.toNat + 2 ≤ rest.length then
      let check := match rest.drop length.toNat with
        | h :: l :: _ => wordOf h l
        | _ => 0
      .complete ⟨⟨address, source, kind, rest.take length.toNat⟩, check⟩ (cs.any charParityError)
    else .more
  | _ => .more

/-- The bit of address a in the halt mask of a PITCH payload stands in payload byte 9 − a / 8, as bit a mod 8. -/
def haltByteIndex (address : Byte) : Nat := 9 - address.toNat / 8

/-- A byte with one bit set or cleared. -/
def putBit (b : Byte) (i : Nat) (v : Bool) : Byte :=
  let mask : Byte := 1#8 <<< i
  if v then b ||| mask else b &&& ~~~mask

/-- The stamp of R146 and R166: the halt-mask bit of the own address, where the payload is long enough to hold it. -/
def stampFrame (own : Byte) (halt : Bool) (f : Frame) : Frame :=
  { f with payload := f.payload.modify (haltByteIndex own) (fun b => putBit b (own.toNat % 8) halt) }

/-! ### JAR payloads (R14, R15, R165) -/

/-- Six bytes for each annotation. -/
def parseAnnotations : List Byte → List Annotation
  | station :: code :: a1 :: a0 :: b1 :: b0 :: rest =>
    ⟨station, code, wordOf a1 a0, wordOf b1 b0⟩ :: parseAnnotations rest
  | _ => []

/-- The record of a JAR payload; none when its length is not 12 + 6·n with n its annotation count and n in 0..6. -/
def parseRecord : List Byte → Option JarRecord
  | p1 :: p0 :: s3 :: s2 :: s1 :: s0 :: recipe :: verdict :: flags :: n :: t1 :: t0 :: rest =>
    if rest.length = 6 * n.toNat ∧ n.toNat ≤ 6 then
      some ⟨wordOf p1 p0, s3 ++ s2 ++ s1 ++ s0, recipe, verdict, flags.getLsbD 0, wordOf t1 t0, parseAnnotations rest⟩
    else none
  | _ => none

def annotationBytes (a : Annotation) : List Byte :=
  a.station :: a.code :: wordBytes a.valueA ++ wordBytes a.valueB

def serialBytes (n : BitVec 32) : List Byte :=
  [n.extractLsb' 24 8, n.extractLsb' 16 8, n.extractLsb' 8 8, n.extractLsb' 0 8]

/-- A record as a JAR payload; bits 1..7 of the flags byte are sent as 0. -/
def recordBytes (r : JarRecord) : List Byte :=
  wordBytes r.pitch ++ serialBytes r.serial ++
    [r.recipe, r.verdict, if r.tempPresent then 1#8 else 0#8, byteOfNat r.annotations.length] ++
    wordBytes r.temp ++ r.annotations.flatMap annotationBytes

/-! ### Codes of enumerated fields -/

def Motion.code : Motion → Nat
  | .stopped => 0
  | .moving => 1

def Sync.code : Sync → Nat
  | .unsynced => 0
  | .synced => 1

def Service.code : Service → Nat
  | .inService => 0
  | .outOfService => 1

/-- HEADS word 2 (R52). -/
def pendingCode : Option Service → Nat
  | none => 0
  | some .inService => 1
  | some .outOfService => 2

/-- HEADS word 3 (R52). -/
def HeadState.code : HeadState → Nat
  | .empty => 0
  | .loaded => 1
  | .flushing => 2
  | .flushed => 3
  | .capped => 4
  | .torquing => 5
  | .settled => 6

/-- The bank part of HEADS word 9 (R52). -/
def tagCode : Option BankId → Nat
  | some .a => 0
  | some .b => 1
  | none => 2

def Role.code : Role → Nat
  | .live => 0
  | .spare => 1
  | .retiring => 2

def FlushResult.code : FlushResult → Nat
  | .noResult => 0
  | .full => 1
  | .under => 2

/-- HEADS word 10 (R52). -/
def Closure.code : Closure → Nat
  | .pending => 0
  | .seated => 1
  | .underTorque => 2
  | .overTorque => 3
  | .crossThread => 4
  | .notCapped => 5
  | .headLost => 6
  | .noRecipe => 7
  | .untracked => 8

/-- The code of a cause is its order number in R125. -/
def RejectCause.code : RejectCause → Nat
  | .upstream => 1
  | .untracked => 2
  | .noRecipe => 3
  | .headLost => 4
  | .notCapped => 5
  | .overTorque => 6
  | .crossThread => 7
  | .underTorque => 8
  | .noMeasurement => 9
  | .leak => 10
  | .weak => 11
  | .overdrawn => 12

/-- The annotation code of a disposition (R130). -/
def Disposition.code : Disposition → Nat
  | .pass => 0
  | .audit => 13
  | .reject c => c.code

/-- The verdict code of the outgoing record (R131). -/
def Disposition.verdict : Disposition → Byte
  | .pass => 1
  | .reject _ => 2
  | .audit => 3

/-- Detail of LINK_NOISE (R139). -/
def DiscardCause.code : DiscardCause → Nat
  | .overLength => 1
  | .parity => 2
  | .checkSequence => 3
  | .passFull => 4
  | .abandoned => 5

/-- Status codes (R149). -/
def Status.code : Status → Byte
  | .ok => 0
  | .accepted => 1
  | .busy => 2
  | .badTable => 3
  | .badArg => 4
  | .signatureMismatch => 5
  | .recipeInvalid => 6
  | .unknownRequest => 7
  | .lengthError => 8

/-- Fault codes (R160). -/
def FaultCode.code : FaultCode → Nat
  | .linkNoise => 1
  | .linkBlocked => 2
  | .infeedStale => 3
  | .infeedOverflow => 4
  | .pitchSkew => 5
  | .ghostRecord => 6
  | .strayJar => 7
  | .recipeUnusable => 8
  | .capMissing => 9
  | .capTypeMismatch => 10
  | .steamLow => 11
  | .headDriveFault => 12
  | .headLinkLost => 13
  | .sensorSaturated => 14
  | .sensorUnmatched => 15
  | .rejectRun => 16

/-- The sixteen codes in order (R160). -/
def allFaultCodes : List FaultCode :=
  [.linkNoise, .linkBlocked, .infeedStale, .infeedOverflow, .pitchSkew, .ghostRecord, .strayJar, .recipeUnusable,
    .capMissing, .capTypeMismatch, .steamLow, .headDriveFault, .headLinkLost, .sensorSaturated, .sensorUnmatched,
    .rejectRun]

/-- The fault code with a given number. -/
def faultOfCode (n : Nat) : Option FaultCode := allFaultCodes.find? (fun c => c.code == n)

/-- STOP class (true) or NOTE class (false) (R160). -/
def FaultCode.isStop : FaultCode → Bool
  | .linkNoise => false
  | .linkBlocked => true
  | .infeedStale => false
  | .infeedOverflow => true
  | .pitchSkew => true
  | .ghostRecord => false
  | .strayJar => true
  | .recipeUnusable => true
  | .capMissing => false
  | .capTypeMismatch => true
  | .steamLow => true
  | .headDriveFault => true
  | .headLinkLost => true
  | .sensorSaturated => false
  | .sensorUnmatched => false
  | .rejectRun => true

/-- The word number of a recipe field (R87). -/
def RecipeField.index : RecipeField → Nat
  | .valid => 0
  | .flushStart => 1
  | .flushEnd => 2
  | .flushTime => 3
  | .applyAngle => 4
  | .torqueStart => 5
  | .torqueEnd => 6
  | .torqueTarget => 7
  | .torqueCeiling => 8
  | .seatCount => 9
  | .angleLimit => 10
  | .baseDeflection => 11
  | .slope => 12
  | .referenceTemp => 13
  | .defaultTemp => 14
  | .weakRatio => 15
  | .leakFloor => 16
  | .overdrawMargin => 17
  | .auditExponent => 18
  | .capType => 19

/-- The index of a CONFIG word (R156). -/
def ConfigWord.index : ConfigWord → Nat
  | .pitchOffset => 0
  | .outfeedDelay => 1
  | .nextStation => 2
  | .chuteType => 3
  | .settleCount => 4
  | .rejectRunLimit => 5
  | .localFirst => 6

/-- Table numbers (R153). -/
def Table.code : Table → Nat
  | .live => 1
  | .spare => 2
  | .retiring => 3
  | .lead => 4
  | .config => 5
  | .tallies => 6
  | .sampleRing => 7
  | .heads => 8

/-- Table lengths in words (R153). -/
def Table.length : Table → Nat
  | .live => 160
  | .spare => 160
  | .retiring => 160
  | .lead => 16
  | .config => 7
  | .tallies => 30
  | .sampleRing => 65
  | .heads => 240

/-- The table with a given number, if there is one (R154). -/
def tableOfCode : Nat → Option Table
  | 1 => some .live
  | 2 => some .spare
  | 3 => some .retiring
  | 4 => some .lead
  | 5 => some .config
  | 6 => some .tallies
  | 7 => some .sampleRing
  | 8 => some .heads
  | _ => none

/-- The station address of a strap value: 0 is taken as 1, 63 as 62 (R159). -/
def strapAddress (straps : BitVec 6) : Byte :=
  if straps.toNat = 0 then 1 else if straps.toNat = 63 then 62 else straps.setWidth 8

end Sys2Proof.Machine
end

