-- ==== Sys2Proof/Machine/Operands.lean ====
section
/-! DEFINITION. The arithmetic of the manual: pitch comparison, clamping and table stores, recipe order, speed and lead,
the seal arithmetic, reject causes and the audit register. Nothing here reads or writes State. -/

namespace Sys2Proof.Machine

/-- The twelve heads, in head order. -/
def allHeads : List (Fin 12) := [0, 1, 2, 3, 4, 5, 6, 7, 8, 9, 10, 11]

/-! ### Pitch numbers (00_scope.md, Pitch numbers; R4) -/

/-- a is ahead of b: (a − b) mod 65536 is 1..32767. -/
def ahead (a b : Word) : Bool := decide (1 ≤ (a - b).toNat ∧ (a - b).toNat ≤ 32767)

/-- a is behind b: (a − b) mod 65536 is 32769..65535. -/
def behind (a b : Word) : Bool := decide (32769 ≤ (a - b).toNat)

/-- The offset of a record against P (R18). -/
def recordOffset (p : Word) (r : JarRecord) : Nat := (r.pitch - p).toNat

/-- Records in increasing order of offset against P (R18). -/
def orderRecords (p : Word) (rs : List JarRecord) : List JarRecord :=
  rs.insertionSort (fun a b => recordOffset p a ≤ recordOffset p b)

/-- A record put at the place its offset gives (R21). -/
def insertRecord (p : Word) (r : JarRecord) (rs : List JarRecord) : List JarRecord :=
  rs.orderedInsert (fun a b => recordOffset p a ≤ recordOffset p b) r

/-- A record put in the place of the queued record of the same pitch (R20). -/
def replaceRecord (r : JarRecord) (rs : List JarRecord) : List JarRecord :=
  rs.map (fun q => if q.pitch = r.pitch then r else q)

/-! ### Clamping and stores (00_scope.md, Clamping) -/

/-- A value clamped to low..high. -/
def clampNat (low high v : Nat) : Nat := max low (min high v)

def clampInt (low high v : Int) : Int := max low (min high v)

/-- A word clamped to low..high. -/
def clampWord (low high : Nat) (w : Word) : Word := wordOfNat (clampNat low high w.toNat)

/-- The range of each recipe word, by its number (R87). -/
def recipeRange : Nat → Nat × Nat
  | 0 => (0, 1)
  | 1 => (61, 2900)
  | 2 => (62, 2900)
  | 3 => (20, 400)
  | 4 => (62, 2950)
  | 5 => (63, 2960)
  | 6 => (64, 2970)
  | 7 => (50, 1000)
  | 8 => (60, 2000)
  | 9 => (1, 8)
  | 10 => (180, 1440)
  | 11 => (0, 1000)
  | 12 => (0, 63)
  | 13 => (600, 990)
  | 14 => (600, 990)
  | 15 => (8, 16)
  | 16 => (0, 500)
  | 17 => (50, 1000)
  | 18 => (0, 8)
  | _ => (0, 15)

/-- The value stored for a word written at a bank index (R88): a flush time of 0 stays 0. -/
def clampRecipeWord (i : Nat) (w : Word) : Word :=
  if i % 20 = 3 ∧ w = 0 then 0 else clampWord (recipeRange (i % 20)).1 (recipeRange (i % 20)).2 w

/-- The value stored for a word written at a LEAD index (R7): upper speed at even, lead at odd indices. -/
def clampLeadWord (i : Nat) (w : Word) : Word := if i % 2 = 0 then clampWord 0 1200 w else clampWord 0 60 w

/-- The value stored for a word written at a CONFIG index (R156). -/
def clampConfigWord : Nat → Word → Word
  | 0 => clampWord 0 1023
  | 1 => clampWord 1 16
  | 2 => clampWord 1 63
  | 3 => clampWord 0 15
  | 4 => clampWord 0 31
  | 5 => clampWord 0 15
  | _ => clampWord 0 1

/-- Words stored from index i on, each clamped by its own index; words beyond the end are not stored (R95, R155). -/
def storeWords {n : Nat} (clamp : Nat → Word → Word) : List Word → Nat → Vector Word n → Vector Word n
  | [], _, v => v
  | w :: ws, i, v => storeWords clamp ws (i + 1) (v.setIfInBounds i (clamp i w))

/-! ### Recipe banks -/

/-- A field of recipe r of a bank, at index r·20 + w (R90); 0 for a recipe number that names no recipe
(notes/assumptions/16.md). -/
def bankField (words : Vector Word 160) (recipe : Nat) (f : RecipeField) : Nat :=
  (words[recipe * 20 + f.index]?.getD 0).toNat

/-- A recipe is usable when its number is 0..7 and its valid word is 1 (R37). -/
def recipeUsable (words : Vector Word 160) (recipe : Nat) : Bool :=
  decide (recipe ≤ 7 ∧ bankField words recipe .valid = 1)

/-- The order of R89. -/
def recipeInOrder (words : Vector Word 160) (r : Nat) : Bool :=
  decide (bankField words r .flushStart < bankField words r .flushEnd ∧
    bankField words r .flushEnd ≤ bankField words r .applyAngle ∧
    bankField words r .applyAngle < bankField words r .torqueStart ∧
    bankField words r .torqueStart < bankField words r .torqueEnd ∧
    bankField words r .torqueTarget < bankField words r .torqueCeiling)

/-- The lowest-numbered valid recipe that is not in order (R89, R98). -/
def firstDisordered (words : Vector Word 160) : Option Nat :=
  (List.range 8).find? (fun r => recipeUsable words r && !recipeInOrder words r)

/-- The signature of a bank: the check value over its words in index order (R93). -/
def bankSignature (words : Vector Word 160) : Word := crc16 (words.toList.flatMap wordBytes)

/-! ### Speed and lead -/

/-- The speed of a measured interval (R5). -/
def speedOf (interval : Nat) : Nat := min (60000 / max interval 1) 1200

/-- The upper speed of lead-table entry i (R7). -/
def leadUpper (t : Vector Word 16) (i : Nat) : Nat := (t[2 * i]?.getD 0).toNat

/-- The lead of lead-table entry i (R7). -/
def leadOf (t : Vector Word 16) (i : Nat) : Nat := (t[2 * i + 1]?.getD 0).toNat

/-- The lead chosen at a speed: the lowest-numbered entry whose upper speed reaches it, else entry 7 (R8). -/
def selectLead (t : Vector Word 16) (speed : Nat) : Nat :=
  leadOf t (((List.range 8).find? (fun i => decide (speed ≤ leadUpper t i))).getD 7)

/-! ### Seal arithmetic -/

/-- The expected deflection E (R118). T is in decidegrees; the subtraction from T is clamped at 0. -/
def expectedDeflection (T F Ft B S Tr : Nat) : Nat :=
  let dT := min (T - Tr) 400
  let E0 := B + S * dT / 10
  let q := if Ft = 0 then (if 1 ≤ F then 256 else 0) else min F Ft * 256 / Ft
  min (E0 * (128 + q / 2) / 256) 2000

def listMax : List Int → Int
  | [] => 0
  | x :: xs => xs.foldl max x

def listMin : List Int → Int
  | [] => 0
  | x :: xs => xs.foldl min x

/-- The trimmed mean M (R119). Division by 6 rounds toward minus infinity. -/
def trimmedMean (samples : List Int) : Int := Int.fdiv (samples.sum - listMax samples - listMin samples + 3) 6

/-- The weak threshold Tw (R120). -/
def weakThreshold (E W : Nat) : Nat := E * W / 16

/-- The verdict of a measured jar with a usable recipe (R121). -/
def sealVerdictOf (M : Int) (E W L H : Nat) : SealVerdict :=
  if M < L then .leak
  else if M < weakThreshold E W then .weak
  else if M > E + H then .overdrawn
  else .sealed

/-! ### Disposition -/

/-- The cause a closure result is, if it is one (R125, codes 2 to 8). -/
def closureCause : Closure → Option RejectCause
  | .untracked => some .untracked
  | .noRecipe => some .noRecipe
  | .headLost => some .headLost
  | .notCapped => some .notCapped
  | .overTorque => some .overTorque
  | .crossThread => some .crossThread
  | .underTorque => some .underTorque
  | .seated => none
  | .pending => none

/-- The cause a seal verdict is, if it is one (R125, codes 9 to 12). -/
def verdictCause : SealVerdict → Option RejectCause
  | .noMeasurement => some .noMeasurement
  | .leak => some .leak
  | .weak => some .weak
  | .overdrawn => some .overdrawn
  | .sealed => none
  | .noVerdict => none

/-- The first cause that applies, in the order of R125. -/
def rejectCause (inbound : Byte) (c : Closure) (v : SealVerdict) : Option RejectCause :=
  if inbound = 2 then some .upstream else (closureCause c).or (verdictCause v)

/-- One step of the audit register (R127). -/
def auditStep (r : BitVec 10) : BitVec 10 :=
  (r <<< 1) + (BitVec.ofBool (r.getLsbD 9 ^^ r.getLsbD 6)).setWidth 10

/-- Whether the register's state selects an audit under exponent k (R126). -/
def auditSelects (r : BitVec 10) (k : Nat) : Bool := decide (1 ≤ k ∧ r.toNat % 2 ^ k = 0)

/-- The register value a seed sets (R128). -/
def auditSeed (v : Word) : BitVec 10 := if v.toNat % 1024 = 0 then 1 else BitVec.ofNat 10 v.toNat

/-- The annotation list with an entry appended, the oldest first removed from a list of 6 or more (R130). -/
def appendAnnotation (l : List Annotation) (a : Annotation) : List Annotation :=
  (if 6 ≤ l.length then l.drop 1 else l) ++ [a]

/-- A saturating tally (R132). -/
def tallyUp (n : Nat) : Nat := min (n + 1) 4294967295

/-- One tally of the fifteen increased (R132). -/
def bumpTally (t : Vector Nat 15) (i : Nat) : Vector Nat 15 := t.setIfInBounds i (tallyUp (t[i]?.getD 0))

/-! ### Dispatch (R140) -/

/-- The action on a frame that passed the checks: the first row of R140 that applies; for an address 64..255 no row
applies and the action is free (notes/assumptions/8.md). -/
def dispatchAction (own : Byte) (f : Frame) : DispatchAction :=
  if f.address = own then
    if f.kind = kindJar then .toInfeed else if f.kind = kindReq then .toManagement else .drop
  else if f.source = own then .drop
  else if f.address = 0 then
    if f.kind = kindPitch then .trackAndForward else .forward
  else if f.address.toNat ≤ 63 then .forward
  else if Config.forwardsUnlisted f.address f.source f.kind then .forward else .drop

/-- Whether a frame is to be forwarded (test 4 of R138). -/
def toBeForwarded (own : Byte) (f : Frame) : Bool :=
  match dispatchAction own f with
  | .trackAndForward => true
  | .forward => true
  | .toInfeed => false
  | .toManagement => false
  | .drop => false

end Sys2Proof.Machine
end

