-- ==== Sys2Proof/Machine/Flags.lean ====
section
/-! DEFINITION. The Fault List (spec/11_faults.md): raising, clearing with promotion, and the halt request. -/

namespace Sys2Proof.Machine

/-- A code is active when it is held in the list or in the overflow set (R161). -/
def FaultList.active (l : FaultList) (c : FaultCode) : Bool :=
  l.list.any (fun e => e.code == c) || l.overflow.any (fun e => e.code == c)

/-- The active count (R161). -/
def FaultList.count (l : FaultList) : Nat := l.list.length + l.overflow.length

/-- The halt request: at least one STOP-class code is active (R163). -/
def FaultList.haltRequest (l : FaultList) : Bool :=
  l.list.any (fun e => e.code.isStop) || l.overflow.any (fun e => e.code.isStop)

/-- An entry put into the overflow set at the place of its code. -/
def insertFault (e : FaultEntry) (l : List FaultEntry) : List FaultEntry :=
  l.orderedInsert (fun a b => a.code.code ≤ b.code.code) e

/-- Raising a code (R161). -/
def FaultList.raise (l : FaultList) (e : FaultEntry) : FaultList :=
  if l.active e.code then l
  else if l.list.length < 8 then { l with list := l.list ++ [e] }
  else { l with overflow := insertFault e l.overflow }

/-- The promotion of the overflow entry with the lowest code to the list tail (R162). -/
def FaultList.promote (l : FaultList) : FaultList :=
  match l.overflow with
  | [] => l
  | e :: rest => ⟨l.list ++ [e], rest⟩

/-- Clearing one code (R162). -/
def FaultList.clear (l : FaultList) (c : FaultCode) : FaultList :=
  if l.list.any (fun e => e.code == c) then
    FaultList.promote { l with list := l.list.filter (fun e => e.code != c) }
  else { l with overflow := l.overflow.filter (fun e => e.code != c) }

/-- CLEAR_FAULT's effect on the list: code 0 empties both at once, 1..16 clears that code (R162). -/
def FaultList.clearByNumber (l : FaultList) (n : Nat) : FaultList :=
  if n = 0 then ⟨[], []⟩
  else match faultOfCode n with
    | some c => l.clear c
    | none => l

end Sys2Proof.Machine
end

