-- ==== Sys2Proof/Machine/State.lean ====
section
/-! DEFINITION. The state of the station, block by block, and its value after cold reset. -/

namespace Sys2Proof.Machine

/-- Reasons a command could stop the machine with a fault. There are none: every command of the table has an effect by
the rules (the station's own faults are entries of its Fault List, R160, and are state). -/
inductive Fault
deriving DecidableEq, Repr

/-- Reasons a command could be refused. -/
inductive Refusal where
  /-- Raised only by an arm of exec for a command that has no meaning yet; no arm is so (safe: nothing is claimed of such
  a command). -/
  | notModelled (mnemonic : String)
deriving DecidableEq, Repr

/-- Pitch Tracker (spec/01). The high-water count and the head angles are computed from the turret count and the backlog
(notes/assumptions/13.md). -/
structure Ptk where
  /-- turret count, 0..3599 (R1) -/
  turret : Nat
  /-- backlog, 0..3599 (R1) -/
  backlog : Nat
  /-- infeed pitch number P (R3) -/
  p : Word
  /-- pitch timer, 0..65535 ms (R5) -/
  pitchTimer : Nat
  /-- interval origin present (R5) -/
  originPresent : Bool
  /-- speed, 0..1200 ppm (R5) -/
  speed : Nat
  /-- motion state (R6) -/
  motion : Motion
  /-- standstill timer, 0..50 ms (R6) -/
  standstill : Nat
  /-- lead table as its 16 words (R7) -/
  leadTable : Vector Word 16
  /-- current lead, 0..60 (R8) -/
  lead : Nat
  /-- sync state (R9) -/
  sync : Sync
deriving DecidableEq, Repr

/-- Spindle Unit (R68) and the state of each head. -/
structure Spu where
  /-- cycle position: the slot of the head bus cycle in progress, 0..12 (R68) -/
  position : Nat
  /-- the head slot in progress has ended with its arrival (R69, notes/assumptions/4.md) -/
  slotEnded : Bool
  heads : Vector Spindle 12
deriving DecidableEq, Repr

/-- Recipe Store (spec/06). Exactly one bank is LIVE (R91); the other is RETIRING or SPARE. -/
structure Rcs where
  a : Bank
  b : Bank
  /-- the bank whose role is LIVE -/
  live : BankId
  /-- the other bank's role is RETIRING -/
  retiring : Bool
  /-- spare signature (R94) -/
  signature : Word
  readCursor : Cursor
  writeCursor : Cursor
deriving DecidableEq, Repr

/-- Seal Check Unit (R110, R112). -/
structure Scu where
  ring : Vector Int 64
  writeIndex : Nat
  window : Window
deriving DecidableEq, Repr

/-- Disposition Unit (spec/08). -/
structure Dsu where
  audit : BitVec 10
  rejectRun : Nat
  tallies : Vector Nat 15
deriving DecidableEq, Repr

/-- Link Interface (spec/09). In the discard window true is "discarded", oldest outcome first. -/
structure Lif where
  receiver : Receiver
  passFifo : List SealedFrame
  transmitQueue : List Frame
  sending : Option SealedFrame
  /-- true = ASSERTED -/
  upstreamHold : Bool
  discardWindow : List Bool
deriving DecidableEq, Repr

/-- Input pins at the level last given by a command (notes/assumptions/1.md). -/
structure Pins where
  /-- infeed jar eye, true = blocked = jar present (R27) -/
  infeedEye : Bool
  /-- cap-present switches, bit k = switch k on (R42) -/
  capSwitches : BitVec 12
  /-- steam-pressure switch, true = OK, false = LOW (R55) -/
  steamOk : Bool
  /-- downstream HOLD, true = asserted (R143) -/
  downstreamHold : Bool
  /-- address straps (R159) -/
  straps : BitVec 6
deriving DecidableEq, Repr

/-- The whole station. -/
structure State where
  ptk : Ptk
  /-- CONFIG words (R156) -/
  cfg : Vector Word 7
  /-- Infeed Queue, in increasing order of offset (R18) -/
  ifq : List JarRecord
  /-- Head Table (R32) -/
  heads : Vector Head 12
  /-- steam valves, true = OPEN (R55) -/
  valves : Vector Bool 12
  spu : Spu
  rcs : Rcs
  /-- Outfeed Line, oldest first (R106) -/
  ofl : List OutfeedEntry
  scu : Scu
  dsu : Dsu
  lif : Lif
  flt : FaultList
  /-- the station's own address (R159) -/
  address : Byte
  pins : Pins
  /-- commands not yet taken, first in first out (the model's own field, notes/assumptions/12.md) -/
  pending : List Instr
deriving DecidableEq, Repr

/-- A head context with no jar, IN service (R53). -/
def Head.reset : Head := ⟨.inService, none, .empty, none⟩

/-- The Spindle Unit's state of a head after a reset (R85). -/
def Spindle.reset : Spindle := ⟨.idle, .free, 0, 0, 0, 0, 0⟩

/-- The lead table after cold reset: upper speed 1200 and lead 0 in every entry (R7). -/
def leadTableReset : Vector Word 16 := #v[1200, 0, 1200, 0, 1200, 0, 1200, 0, 1200, 0, 1200, 0, 1200, 0, 1200, 0]

/-- The CONFIG words after cold reset (R156). -/
def configReset : Vector Word 7 := #v[0, 4, 63, 0, 4, 5, 0]

/-- A bank after cold reset: 160 words of 0, none in flight (R104). -/
def Bank.reset : Bank := ⟨Vector.replicate 160 0, 0⟩

/-- The input pins before any command has given a level (DESIGN CHOICE, notes/assumptions/11.md). -/
def Pins.reset : Pins := ⟨false, 0, false, false, 0⟩

/-- The Pitch Tracker after cold reset (R12). -/
def Ptk.reset : Ptk := ⟨0, 0, 0, 0, false, 0, .stopped, 0, leadTableReset, 0, .unsynced⟩

/-- The Recipe Store after cold reset (R104). -/
def Rcs.reset : Rcs :=
  ⟨Bank.reset, Bank.reset, .a, false, crc16 (List.replicate 320 0), ⟨.live, 0⟩, ⟨.live, 0⟩⟩

/-- The Link Interface after a reset (R147). -/
def Lif.reset : Lif := ⟨.hunt, [], [], none, false, []⟩

/-- The station after cold reset: R12, R31, R53, R67, R85, R104, R122, R134, R147, R156, R164; the address that the
straps of `Pins.reset` give (R159). -/
def State.reset : State where
  ptk := Ptk.reset
  cfg := configReset
  ifq := []
  heads := Vector.replicate 12 Head.reset
  valves := Vector.replicate 12 false
  spu := ⟨0, false, Vector.replicate 12 Spindle.reset⟩
  rcs := Rcs.reset
  ofl := []
  scu := ⟨Vector.replicate 64 0, 0, .closed⟩
  dsu := ⟨1, 0, Vector.replicate 15 0⟩
  lif := Lif.reset
  flt := ⟨[], []⟩
  address := strapAddress Pins.reset.straps
  pins := Pins.reset
  pending := []

end Sys2Proof.Machine
end

