-- ==== Sys2Proof/Machine/Ops.lean ====
section
/-! DEFINITION. The named operations over State: one update per block, the accessors of one head, valve, spindle drive and
CONFIG word, the raising of a fault, the Recipe Store's counts and refill, and the downstream port. -/

namespace Sys2Proof.Machine

/-! ### One update per block -/

def State.setPtk (s : State) (v : Ptk) : State := { s with ptk := v }
def State.setCfg (s : State) (v : Vector Word 7) : State := { s with cfg := v }
def State.setIfq (s : State) (v : List JarRecord) : State := { s with ifq := v }
def State.setHeads (s : State) (v : Vector Head 12) : State := { s with heads := v }
def State.setValves (s : State) (v : Vector Bool 12) : State := { s with valves := v }
def State.setSpu (s : State) (v : Spu) : State := { s with spu := v }
def State.setRcs (s : State) (v : Rcs) : State := { s with rcs := v }
def State.setOfl (s : State) (v : List OutfeedEntry) : State := { s with ofl := v }
def State.setScu (s : State) (v : Scu) : State := { s with scu := v }
def State.setDsu (s : State) (v : Dsu) : State := { s with dsu := v }
def State.setLif (s : State) (v : Lif) : State := { s with lif := v }
def State.setFlt (s : State) (v : FaultList) : State := { s with flt := v }
def State.setAddress (s : State) (v : Byte) : State := { s with address := v }
def State.setPins (s : State) (v : Pins) : State := { s with pins := v }
def State.setPending (s : State) (v : List Instr) : State := { s with pending := v }

/-! ### Accessors -/

/-- The context of head k (R32). -/
def State.head (s : State) (k : Fin 12) : Head := s.heads[k.val]

def State.setHead (s : State) (k : Fin 12) (h : Head) : State := s.setHeads (s.heads.set k.val h)

/-- The valve of head k, true = OPEN (R55). -/
def State.valve (s : State) (k : Fin 12) : Bool := s.valves[k.val]

def State.setValve (s : State) (k : Fin 12) (v : Bool) : State := s.setValves (s.valves.set k.val v)

/-- The Spindle Unit's state of head k (R68). -/
def State.spindle (s : State) (k : Fin 12) : Spindle := s.spu.heads[k.val]

def State.setSpindle (s : State) (k : Fin 12) (v : Spindle) : State :=
  s.setSpu { s.spu with heads := s.spu.heads.set k.val v }

/-- A CONFIG word (R156). -/
def State.configWord (s : State) (w : ConfigWord) : Word := s.cfg[w.index]?.getD 0

/-- The high-water count (R1). -/
def State.highWater (s : State) : Nat := (s.ptk.turret + s.ptk.backlog) % Config.countsPerRevolution

/-- The angle of head k as set at the latest turret advance (R2): the turret count of that advance is the high-water
count. -/
def State.angle (s : State) (k : Fin 12) : Nat :=
  (s.highWater + Config.countsPerRevolution - Config.countsPerPitch * k.val) % Config.countsPerRevolution

/-- The flush accumulator of head k: the jar's flush accrued field, 0 with no jar (R55). -/
def State.accumulator (s : State) (k : Fin 12) : Nat :=
  match (s.head k).jar with
  | some j => j.flushAccrued
  | none => 0

/-- What the downstream port sends (R143): the characters of the frame in transmission, or idle characters. -/
def State.downstreamCharacters (s : State) : List LinkChar :=
  match s.lif.sending with
  | some f => frameChars f
  | none => [idleChar]

/-! ### Raising a fault -/

/-- A block raises a code with its detail; the raised-at pitch is P as it stands (R160, R161). -/
def State.raise (s : State) (c : FaultCode) (detail : Byte) : State :=
  s.setFlt (s.flt.raise ⟨c, s.ptk.p, detail⟩)

/-! ### Recipe Store -/

def BankId.other : BankId → BankId
  | .a => .b
  | .b => .a

def Rcs.bank (r : Rcs) : BankId → Bank
  | .a => r.a
  | .b => r.b

def Rcs.setBank (r : Rcs) (i : BankId) (x : Bank) : Rcs :=
  match i with
  | .a => { r with a := x }
  | .b => { r with b := x }

/-- The role of a bank (R91). -/
def Rcs.role (r : Rcs) (i : BankId) : Role :=
  if i = r.live then .live else if r.retiring then .retiring else .spare

/-- A recipe field as a jar reads it: from the recipe its record names, in its tagged bank (R35, R87); 0 for a jar with
no tag (notes/assumptions/16.md). -/
def Rcs.jarField (r : Rcs) (j : Jar) (f : RecipeField) : Nat :=
  match j.tag with
  | some i => bankField (r.bank i).words j.record.recipe.toNat f
  | none => 0

/-- One jar more in flight under a bank (R92). -/
def Rcs.countUp (r : Rcs) (i : BankId) : Rcs :=
  r.setBank i { r.bank i with inFlight := (r.bank i).inFlight + 1 }

/-- The bank that is not LIVE becomes SPARE with a copy of all 160 words of the LIVE bank, and the spare signature is
recomputed (R94, R99, R101, R105). -/
def Rcs.refill (r : Rcs) : Rcs :=
  let words := (r.bank r.live).words
  { r.setBank r.live.other { r.bank r.live.other with words := words } with
    retiring := false
    signature := bankSignature words }

/-- One jar less in flight under a bank; a RETIRING bank's count falling to 0 completes the drain (R92, R101). -/
def Rcs.countDown (r : Rcs) (i : BankId) : Rcs :=
  let r' := r.setBank i { r.bank i with inFlight := (r.bank i).inFlight - 1 }
  if r.role i = .retiring ∧ (r'.bank i).inFlight = 0 then r'.refill else r'

/-! ### Downstream port -/

/-- The upstream HOLD after a frame has joined the Pass FIFO (R142). -/
def holdAfterJoin (free : Nat) (hold : Bool) : Bool := if free ≤ 3 then true else hold

/-- The upstream HOLD after a frame has left the Pass FIFO (R142). -/
def holdAfterLeave (free : Nat) (hold : Bool) : Bool := if 6 ≤ free then false else hold

/-- Free entries of the Pass FIFO (R141). -/
def Lif.passFree (l : Lif) : Nat := Config.passCapacity - l.passFifo.length

/-- A frame of the station as it is sent: the check sequence is filled in at the start (R144); a frame of kind PITCH is
stamped (R146). -/
def ownAsSent (own : Byte) (halt : Bool) (f : Frame) : SealedFrame :=
  if f.kind = kindPitch then sealFrame (stampFrame own halt f) else sealFrame f

/-- A forwarded frame as it is sent: as received, but for the stamp of a PITCH frame, whose check sequence is computed
anew (R141, R146, R166). -/
def forwardedAsSent (own : Byte) (halt : Bool) (f : SealedFrame) : SealedFrame :=
  if f.frame.kind = kindPitch then sealFrame (stampFrame own halt f.frame) else f

/-- The oldest Transmit Queue frame leaves its queue and its transmission starts (R144, R145). -/
def startOwn (s : State) : State :=
  match s.lif.transmitQueue with
  | f :: rest =>
    s.setLif { s.lif with transmitQueue := rest, sending := some (ownAsSent s.address s.flt.haltRequest f) }
  | [] => s

/-- The oldest Pass FIFO frame leaves it and its transmission starts; the change acts on the upstream HOLD (R142). -/
def startForwarded (s : State) : State :=
  match s.lif.passFifo with
  | f :: rest =>
    s.setLif { s.lif with
      passFifo := rest
      sending := some (forwardedAsSent s.address s.flt.haltRequest f)
      upstreamHold := holdAfterLeave (Config.passCapacity - rest.length) s.lif.upstreamHold }
  | [] => s

/-- Whether the arbiter prefers the station's own frames: local-first is 1, or the Pass FIFO has 4 or more free entries
(R145). -/
def prefersOwn (s : State) : Bool := s.configWord .localFirst == 1 || decide (4 ≤ s.lif.passFree)

/-- A run of the arbiter on an idle port (R145). -/
def runArbiter (s : State) : State :=
  if s.pins.downstreamHold then s
  else if s.lif.transmitQueue = [] then startForwarded s
  else if prefersOwn s ∨ s.lif.passFifo = [] then startOwn s
  else startForwarded s

/-- The arbiter runs whenever the port is idle and a frame waits (R145). -/
def runArbiterIfIdle (s : State) : State := if s.lif.sending = none then runArbiter s else s

/-- A frame made by the station joins the Transmit Queue, or is lost when 8 are held (R144). -/
def pushFrame (f : Frame) (s : State) : State :=
  if s.lif.transmitQueue.length < Config.transmitCapacity then
    runArbiterIfIdle (s.setLif { s.lif with transmitQueue := s.lif.transmitQueue ++ [f] })
  else s

/-- A JAR frame is pushed; a lost one raises LINK_BLOCKED with the low byte of its pitch (R144). -/
def pushJarFrame (pitch : Word) (f : Frame) (s : State) : State :=
  if s.lif.transmitQueue.length < Config.transmitCapacity then pushFrame f s
  else s.raise .linkBlocked (lowByte pitch)

/-- A frame to be forwarded joins the tail of the Pass FIFO (R140, R141); its room was tested by R138. -/
def forwardFrame (f : SealedFrame) (s : State) : State :=
  let fifo := s.lif.passFifo ++ [f]
  runArbiterIfIdle (s.setLif { s.lif with
    passFifo := fifo
    upstreamHold := holdAfterJoin (Config.passCapacity - fifo.length) s.lif.upstreamHold })

end Sys2Proof.Machine
end

