-- ==== Sys2Proof/Machine/Outfeed.lean ====
section
/-! DEFINITION. The Outfeed Line, the seal verdict of a jar and its completion by the Disposition Unit (spec/07, spec/08). -/

namespace Sys2Proof.Machine

/-! ### Seal verdict -/

/-- The expected deflection of a jar with a usable recipe (R118). -/
def expectedOf (r : Rcs) (j : Jar) : Nat :=
  expectedDeflection (j.effectiveTemp.getD 0) j.flushAccrued (r.jarField j .flushTime) (r.jarField j .baseDeflection)
    (r.jarField j .slope) (r.jarField j .referenceTemp)

/-- The seal verdict of a jar with its trimmed mean, if it has one (R117, R121). -/
def verdictOf (r : Rcs) (j : Jar) (m : Option Int) : SealVerdict :=
  if j.usable then
    match m with
    | none => .noMeasurement
    | some M =>
      sealVerdictOf M (expectedOf r j) (r.jarField j .weakRatio) (r.jarField j .leakFloor) (r.jarField j .overdrawMargin)
  else .noVerdict

/-! ### Completion (R124) -/

/-- The disposition and the audit register after it (R126, R127). -/
def dispose (cause : Option RejectCause) (k : Nat) (register : BitVec 10) : Disposition × BitVec 10 :=
  match cause with
  | some c => (.reject c, register)
  | none => (if auditSelects (auditStep register) k then .audit else .pass, auditStep register)

/-- The reject-run counter after a disposition, and REJECT_RUN where the run reaches the limit (R129). -/
def countRejectRun (d : Disposition) (s : State) : State :=
  match d with
  | .reject c =>
    let n := min (s.dsu.rejectRun + 1) 15
    let limit := (s.configWord .rejectRunLimit).toNat
    if 1 ≤ limit ∧ limit ≤ n then
      (s.setDsu { s.dsu with rejectRun := 0 }).raise .rejectRun (byteOfNat c.code)
    else s.setDsu { s.dsu with rejectRun := n }
  | .pass => s.setDsu { s.dsu with rejectRun := 0 }
  | .audit => s.setDsu { s.dsu with rejectRun := 0 }

/-- The tallies after a disposition (R132). -/
def addTally (d : Disposition) (t : Vector Nat 15) : Vector Nat 15 :=
  match d with
  | .pass => bumpTally t 0
  | .audit => bumpTally t 1
  | .reject c => bumpTally (bumpTally t 2) (c.code + 2)

/-- Value B of the station's annotation: M, or −32768 without one (R130). -/
def annotationValueB : Option Int → Word
  | some M => BitVec.ofInt 16 M
  | none => BitVec.ofInt 16 (-32768)

/-- The station's annotation (R130). -/
def ownAnnotation (own : Byte) (d : Disposition) (m : Option Int) (j : Jar) : Annotation :=
  ⟨own, byteOfNat d.code, wordOfNat j.seatTorque, annotationValueB m⟩

/-- The outgoing record (R131). -/
def outgoingRecord (own : Byte) (d : Disposition) (m : Option Int) (j : Jar) : JarRecord :=
  { j.record with
    verdict := d.verdict
    annotations := appendAnnotation j.record.annotations (ownAnnotation own d m j) }

/-- The JAR frame of a completed jar (R131). -/
def outgoingFrame (s : State) (d : Disposition) (m : Option Int) (j : Jar) : Frame :=
  ⟨lowByte (s.configWord .nextStation), s.address, kindJar, recordBytes (outgoingRecord s.address d m j)⟩

/-- The cause found for a jar (R125). -/
def causeOf (r : Rcs) (j : Jar) (m : Option Int) : Option RejectCause :=
  rejectCause j.record.verdict j.closure (verdictOf r j m)

/-- The disposition of a jar and the audit register after it. -/
def disposeJar (s : State) (j : Jar) (m : Option Int) : Disposition × BitVec 10 :=
  dispose (causeOf s.rcs j m) (s.rcs.jarField j .auditExponent) s.dsu.audit

/-- The five steps of R124, in order. -/
def completeJar (j : Jar) (m : Option Int) (s : State) : State :=
  let d := disposeJar s j m
  let s1 := s.setDsu { s.dsu with audit := d.2 }
  let s2 := countRejectRun d.1 s1
  let s3 := s2.setDsu { s2.dsu with tallies := addTally d.1 s2.dsu.tallies }
  pushJarFrame j.record.pitch (outgoingFrame s3 d.1 m j) s3

/-! ### The Outfeed Line -/

/-- The Recipe Store's part of a removal (R109 step 3): a tracked jar's bank has one jar less in flight. -/
def releaseTag (j : Jar) (s : State) : State :=
  if j.tracked then
    match j.tag with
    | some i => s.setRcs (s.rcs.countDown i)
    | none => s
  else s

/-- An entry that has left the Outfeed Line is passed on (R109). -/
def passOn (j : Jar) (m : Option Int) (s : State) : State := releaseTag j (completeJar j m s)

/-- P is ahead of the due pitch plus 2 (R108). -/
def overdue (p : Word) (e : OutfeedEntry) : Bool := ahead p (e.duePitch + 2)

/-- The removal of the overdue entries, oldest first, each passed on with no measurement (R108). -/
def removeOverdue (s : State) : State :=
  (s.ofl.filter (overdue s.ptk.p)).foldl (fun t e => passOn e.jar none t)
    (s.setOfl (s.ofl.filter (fun e => !overdue s.ptk.p e)))

/-- With 20 entries held, the oldest is removed as an overdue entry is (R107). -/
def makeRoom (s : State) : State :=
  match s.ofl with
  | e :: rest => if Config.outfeedCapacity ≤ s.ofl.length then passOn e.jar none (s.setOfl rest) else s
  | [] => s

/-- The jar handed over at the exit joins at the tail (R106, R107). -/
def joinOutfeed (j : Jar) (s : State) : State :=
  let s1 := makeRoom s
  s1.setOfl (s1.ofl ++ [⟨j, s1.ptk.p, s1.ptk.p + s1.configWord .outfeedDelay⟩])

/-- The match of a measurement to the oldest entry (R115). -/
def matchMeasurement (samples : List Int) (s : State) : State :=
  match s.ofl with
  | [] => s.raise .sensorUnmatched 0
  | e :: rest =>
    if ahead e.duePitch (s.ptk.p + 1) then s.raise .sensorUnmatched (lowByte e.duePitch)
    else passOn e.jar (some (trimmedMean samples)) (s.setOfl rest)

/-- Measurement completion (R114): SENSOR_SATURATED with the count of clamped samples, then the match. -/
def completeMeasurement (samples : List Int) (clamped : Nat) (s : State) : State :=
  matchMeasurement samples (if 1 ≤ clamped then s.raise .sensorSaturated (byteOfNat clamped) else s)

end Sys2Proof.Machine
end

