-- ==== Sys2Proof/Machine/Cycle.lean ====
section
/-! DEFINITION. The Infeed Queue's match, the closure cycle of a head, its valve and its exit (spec/02, spec/03, spec/04),
and the out-of-service report (R50). -/

namespace Sys2Proof.Machine

/-! ### Infeed Queue -/

/-- P takes a new value; the order of the queue is the order of the offsets as they then stand (R18). -/
def setPitch (p : Word) (s : State) : State :=
  (s.setPtk { s.ptk with p := p }).setIfq (orderRecords p s.ifq)

/-- The removal of every record behind P, raising INFEED_STALE for each in queue order (R25, R26). -/
def purgeBehind (s : State) : State :=
  (s.ifq.filter (fun r => behind r.pitch s.ptk.p)).foldl (fun t r => t.raise .infeedStale (lowByte r.pitch))
    (s.setIfq (s.ifq.filter (fun r => !behind r.pitch s.ptk.p)))

/-- The record the station builds for a stray jar (R30, R131). -/
def strayRecord (p : Word) : JarRecord := ⟨p, 0, 15, 0, false, 0, []⟩

/-- The oldest record is level with P (R27). -/
def oldestLevel (s : State) : Option JarRecord :=
  match s.ifq with
  | r :: _ => if r.pitch = s.ptk.p then some r else none
  | [] => none

/-- A head byte of a fault detail. -/
def headByte (k : Fin 12) : Byte := byteOfNat k.val

/-! ### Load (R34 to R37) -/

/-- The effective fill temperature of a tracked jar (R36). A jar without a usable recipe keeps that of its record, where R117
speaks of none (DEDUCED, notes/assumptions/24.md). A Tdef that was never written since cold reset is taken as the 0 it holds,
outside the 600..990 of R33 (DESIGN CHOICE, notes/assumptions/25.md). -/
def effectiveTemp (r : JarRecord) (usable : Bool) (default : Nat) : Option Nat :=
  if r.tempPresent then some (clampNat 600 990 r.temp.toNat)
  else if usable then some default
  else none

/-- The jar part as created at load (R33). -/
def newJar (r : JarRecord) (tracked : Bool) (tag : Option BankId) (usable : Bool) (temp : Option Nat) (c : Closure) : Jar :=
  ⟨r, tracked, tag, usable, temp, 0, .noResult, c, 0, 0, 0, 0⟩

/-- The pending service change is applied (R34). -/
def applyPendingService (h : Head) : Head :=
  match h.pendingService with
  | some v => { h with service := v, pendingService := none }
  | none => h

/-- The start of a load, whatever its outcome: the service change (R34), the release hold none (R81), and the valve
CLOSED, as the table of spec/04 4.9 gives at a load. -/
def beginLoad (k : Fin 12) (s : State) : State :=
  ((s.setHead k (applyPendingService (s.head k))).setSpindle k { s.spindle k with releaseHold := .free }).setValve k false

/-- A load with no jar (R34). -/
def loadNothing (k : Fin 12) (s : State) : State :=
  let s1 := beginLoad k s
  s1.setHead k { s1.head k with state := .empty, jar := none }

/-- The load of an untracked jar (R34). -/
def loadUntracked (k : Fin 12) (r : JarRecord) (s : State) : State :=
  let s1 := beginLoad k s
  s1.setHead k { s1.head k with state := .settled, jar := some (newJar r false none false none .untracked) }

/-- The recipe check of a tracked jar at load, in the LIVE bank (R35, R37). -/
def usableAtLoad (rcs : Rcs) (r : JarRecord) : Bool := recipeUsable (rcs.bank rcs.live).words r.recipe.toNat

/-- The jar part of a tracked jar at load, with its closure result (R35 to R37). -/
def trackedJar (rcs : Rcs) (r : JarRecord) (c : Closure) : Jar :=
  newJar r true (some rcs.live) (usableAtLoad rcs r)
    (effectiveTemp r (usableAtLoad rcs r) (bankField (rcs.bank rcs.live).words r.recipe.toNat .defaultTemp)) c

/-- The load of a tracked jar (R34, R35, R37). -/
def loadTracked (k : Fin 12) (r : JarRecord) (s : State) : State :=
  let s1 := beginLoad k s
  let s2 := s1.setRcs (s1.rcs.countUp s1.rcs.live)
  match (s1.head k).service with
  | .outOfService => s2.setHead k { s2.head k with state := .settled, jar := some (trackedJar s1.rcs r .headLost) }
  | .inService =>
    if usableAtLoad s1.rcs r then
      s2.setHead k { s2.head k with state := .loaded, jar := some (trackedJar s1.rcs r .pending) }
    else
      (s2.setHead k { s2.head k with state := .settled, jar := some (trackedJar s1.rcs r .noRecipe) }).raise
        .recipeUnusable r.recipe

/-- The infeed match for the head at infeed and its load: tracked, ghost, stray or empty (R27 to R30, R34). -/
def serveInfeed (k : Fin 12) (s : State) : State :=
  match oldestLevel s, s.pins.infeedEye with
  | some r, true => loadTracked k r (s.setIfq s.ifq.tail)
  | some _, false => loadNothing k ((s.setIfq s.ifq.tail).raise .ghostRecord (headByte k))
  | none, true =>
    loadUntracked k (strayRecord s.ptk.p)
      (if s.ptk.sync = .synced then s.raise .strayJar (headByte k) else s)
  | none, false => loadNothing k s

/-! ### The cycle by angle (R38) -/

/-- A head's jar takes a closure result and the head becomes SETTLED. -/
def settleHead (k : Fin 12) (j : Jar) (c : Closure) (s : State) : State :=
  s.setHead k { s.head k with state := .settled, jar := some { j with closure := c } }

/-- LOADED to FLUSHING at flush_start − lead; the valve opens (R39, R57). A flush_start of 0, which only a recipe word never
written since cold reset can hold, is reached at the load's own advance (DESIGN CHOICE, notes/assumptions/22.md). -/
def openPoint (k : Fin 12) (s : State) : State :=
  match (s.head k).jar with
  | some j =>
    if (s.head k).state = .loaded ∧ s.rcs.jarField j .flushStart ≤ s.angle k + s.ptk.lead then
      (s.setHead k { s.head k with state := .flushing }).setValve k true
    else s
  | none => s

/-- The flush result at the zone end (R60). -/
def zoneEndResult (ft accrued : Nat) : FlushResult :=
  if ft = 0 then (if 1 ≤ accrued then .full else .under)
  else if accrued < ft then .under
  else .full

/-- FLUSHING to FLUSHED at flush_end − lead (R60). -/
def closePoint (k : Fin 12) (s : State) : State :=
  match (s.head k).jar with
  | some j =>
    if (s.head k).state = .flushing ∧ s.rcs.jarField j .flushEnd ≤ s.angle k + s.ptk.lead then
      (s.setHead k { s.head k with
        state := .flushed
        jar := some { j with flushResult := zoneEndResult (s.rcs.jarField j .flushTime) j.flushAccrued } }).setValve k false
    else s
  | none => s

/-- The cap type check against the chute type, and the cap-present check (R41, R42). -/
def applyPoint (k : Fin 12) (s : State) : State :=
  match (s.head k).jar with
  | some j =>
    if (s.head k).state = .flushed ∧ s.rcs.jarField j .applyAngle ≤ s.angle k then
      let cap := s.rcs.jarField j .capType
      let chute := (s.configWord .chuteType).toNat
      if cap ≠ 0 ∧ cap ≠ chute then
        (settleHead k j .notCapped s).raise .capTypeMismatch (byteOfNat (cap * 16 + chute))
      else if s.pins.capSwitches.getLsbD k.val then s.setHead k { s.head k with state := .capped }
      else (settleHead k j .notCapped s).raise .capMissing (headByte k)
    else s
  | none => s

/-- CAPPED to TORQUING at torque_start; the spindle's counters start from 0 (R43, R82). -/
def torqueStartPoint (k : Fin 12) (s : State) : State :=
  match (s.head k).jar with
  | some j =>
    if (s.head k).state = .capped ∧ s.rcs.jarField j .torqueStart ≤ s.angle k then
      (s.setHead k { s.head k with state := .torquing }).setSpindle k
        { s.spindle k with run := 0, sum := 0, misses := 0, lastAngle := 0 }
    else s
  | none => s

/-- TORQUING to SETTLED with UNDER_TORQUE at torque_end (R45, R82). -/
def torqueEndPoint (k : Fin 12) (s : State) : State :=
  match (s.head k).jar with
  | some j =>
    if (s.head k).state = .torquing ∧ s.rcs.jarField j .torqueEnd ≤ s.angle k then
      settleHead k { j with finalAngle := (s.spindle k).lastAngle } .underTorque s
    else s
  | none => s

/-- The angle-driven transitions of one head at one turret advance, in the order of R38. -/
def headTransitions (k : Fin 12) (s : State) : State :=
  torqueEndPoint k (torqueStartPoint k (applyPoint k (closePoint k (openPoint k s))))

/-! ### Exit (R47, R80, R107) -/

/-- The release hold of the head whose jar leaves (R80). -/
def exitHold : ReleaseHold → ReleaseHold
  | .free => .toPitch
  | .toPitch => .toPitch
  | .toLoad => .toLoad

/-- A release hold TO_PITCH set before this pitch event is cleared (R80). -/
def clearHold : ReleaseHold → ReleaseHold
  | .free => .free
  | .toPitch => .free
  | .toLoad => .toLoad

/-- Every TO_PITCH set before this pitch event becomes none (R80). -/
def clearPitchHolds (s : State) : State :=
  allHeads.foldl (fun t k => t.setSpindle k { t.spindle k with releaseHold := clearHold (t.spindle k).releaseHold }) s

/-- The head at the exit becomes EMPTY and its jar part is removed (R47); its release hold follows (R80) and its valve is
CLOSED (R66). -/
def vacate (k : Fin 12) (s : State) : State :=
  ((s.setHead k { s.head k with state := .empty, jar := none }).setSpindle k
    { s.spindle k with releaseHold := exitHold (s.spindle k).releaseHold }).setValve k false

/-- The exit and the Outfeed Line's part of the pitch event: the head's transitions come first (R38), the overdue entries
go before the jar joins (R107). -/
def serveExit (k : Fin 12) (s : State) : State :=
  let s1 := headTransitions k s
  match (s1.head k).jar with
  | some j => joinOutfeed j (removeOverdue (vacate k s1))
  | none => removeOverdue s1

/-! ### Out of service (R50, R65, R81) -/

/-- The jar under an out-of-service report: a PENDING result becomes HEAD_LOST, with the last angle when TORQUING. -/
def reportedJar (state : HeadState) (lastAngle : Nat) (j : Jar) : Jar :=
  if j.closure = .pending then
    { j with closure := .headLost, finalAngle := if state = .torquing then lastAngle else j.finalAngle }
  else j

/-- The head context under an out-of-service report (R50). -/
def reportedHead (lastAngle : Nat) (h : Head) : Head :=
  match h.jar with
  | some j =>
    { service := .outOfService
      pendingService := none
      state := if j.closure = .pending then .settled else h.state
      jar := some (reportedJar h.state lastAngle j) }
  | none => { h with service := .outOfService, pendingService := none }

/-- The out-of-service report of a head: service OUT, HEAD_LOST, valve closed, RELEASE until the next load. -/
def outOfServiceReport (k : Fin 12) (s : State) : State :=
  ((s.setHead k (reportedHead (s.spindle k).lastAngle (s.head k))).setValve k false).setSpindle k
    { s.spindle k with releaseHold := .toLoad }

end Sys2Proof.Machine
end

