-- ==== Sys2Proof/Machine/Flush.lean ====
section
/-! DEFINITION. The flush millisecond tick (spec/04) and the timers of the station time base. -/

namespace Sys2Proof.Machine

/-- The pitch timer and the standstill timer count one millisecond of the time base (R5, R6; notes/assumptions/2.md). -/
def countMillisecond (t : Ptk) : Ptk :=
  { t with
    pitchTimer := min (t.pitchTimer + 1) 65535
    standstill := if t.motion = .moving then min (t.standstill + 1) Config.standstillTime else t.standstill }

/-- The accumulator after a tick with steam OK: a zone-limited flush counts to at most 400 (R58). -/
def accrue (ft accrued : Nat) : Nat := if ft = 0 then min (accrued + 1) 400 else accrued + 1

/-- A tick with steam OK on one head: its OPEN valve's accumulator adds 1, and a flush that reaches its target ends (R58). -/
def flushHead (k : Fin 12) (s : State) : State :=
  match (s.head k).jar with
  | some j =>
    if s.valve k ∧ (s.head k).state = .flushing then
      let ft := s.rcs.jarField j .flushTime
      let n := accrue ft j.flushAccrued
      if ft ≠ 0 ∧ n = ft then
        (s.setHead k { s.head k with
          state := .flushed
          jar := some { j with flushAccrued := n, flushResult := .full } }).setValve k false
      else s.setHead k { s.head k with jar := some { j with flushAccrued := n } }
    else s
  | none => s

/-- The lowest head whose valve is OPEN (R59). -/
def lowestOpen (s : State) : Option (Fin 12) := allHeads.find? (fun k => s.valve k)

/-- A tick on the valves (R58, R59). -/
def flushTick (s : State) : State :=
  if s.pins.steamOk then allHeads.foldl (fun t k => flushHead k t) s
  else match lowestOpen s with
    | some k => s.raise .steamLow (headByte k)
    | none => s

/-- FLUSH_MILLISECOND_TICK (R58), the millisecond of the station time base. -/
def execFlushMillisecondTick (steamOk : Bool) (s : State) : Host.Outcome State Fault Refusal :=
  .next (flushTick ((s.setPins { s.pins with steamOk := steamOk }).setPtk (countMillisecond s.ptk)))

end Sys2Proof.Machine
end

