-- ==== Sys2Proof/Machine/HeadBus.lean ====
section
/-! DEFINITION. The head bus (spec/05): the sync slot, the command of a head's slot and what its arrival brings. -/

namespace Sys2Proof.Machine

/-! ### The cycle of 13 slots (R69) -/

/-- The slot that follows the one in progress is this one, and the one in progress is over: the sync slot takes no reply, a
head slot ends with its arrival (R69). -/
def Spu.due (u : Spu) (slot : Nat) : Bool := slot == (u.position + 1) % 13 && (u.position == 0 || u.slotEnded)

/-- A slot begins. -/
def Spu.beginSlot (u : Spu) (slot : Nat) : Spu := { u with position := slot, slotEnded := false }

/-- The slot in progress ends with its arrival (R69). -/
def endSlot (s : State) : State := s.setSpu { s.spu with slotEnded := true }

/-- The slot of head k is in progress (R69). -/
def Spu.inSlot (u : Spu) (k : Fin 12) : Bool := u.position == k.val + 1 && !u.slotEnded

/-- HEAD_BUS_SYNC_SLOT (R69): the cycle opens after the last head slot; no command is sent and no reply is taken. Out of
turn it changes nothing (notes/assumptions/4.md). -/
def execHeadBusSyncSlot (s : State) : Host.Outcome State Fault Refusal :=
  .next (if s.spu.due 0 then s.setSpu (s.spu.beginSlot 0) else s)

/-! ### Commands (R70) -/

/-- The command chosen at the start of a head's slot: the first row of R70 that applies. -/
def chooseCommand (rcs : Rcs) (hold : ReleaseHold) (h : Head) : HeadCommand :=
  match hold with
  | .toLoad => .release
  | .toPitch => .release
  | .free =>
    match h.state, h.jar with
    | .torquing, some j => .run (rcs.jarField j .torqueCeiling)
    | .settled, some j => if j.closure = .seated then .hold else .idle
    | _, _ => .idle

/-- The slot of head k begins, and the command chosen is in force for it (R69, R70). -/
def startSlot (k : Fin 12) (s : State) : State :=
  (s.setSpu (s.spu.beginSlot (k.val + 1))).setSpindle k
    { s.spindle k with command := chooseCommand s.rcs (s.spindle k).releaseHold (s.head k) }

/-- HEAD_SLOT_START (R70): slot k + 1 begins when the slot before it is over (R69); out of turn it changes nothing
(notes/assumptions/4.md). -/
def execHeadSlotStart (k : Fin 12) (s : State) : Host.Outcome State Fault Refusal :=
  .next (if s.spu.due (k.val + 1) then startSlot k s else s)

/-! ### Replies and missed samples (R72 to R79) -/

/-- What the slot of head k brings (R72). -/
def slotOutcome (k : Fin 12) : Option Reply → SlotOutcome
  | none => .missed
  | some r =>
    if r.head = k.val ∧ replyCheckPasses r then
      match r.status with
      | .ok => .okReply r.torque.toNat r.angle.toNat
      | .fault => .faultReply
    else .missed

/-- A command is RUN. -/
def HeadCommand.isRun : HeadCommand → Bool
  | .run _ => true
  | .idle => false
  | .hold => false
  | .release => false

/-- A miss counts in slots commanded RUN or HOLD (R77). -/
def HeadCommand.countsMisses : HeadCommand → Bool
  | .run _ => true
  | .hold => true
  | .idle => false
  | .release => false

/-- A jar settled by the spindle (R44). -/
def settleBySpindle (k : Fin 12) (j : Jar) (c : Closure) (angle : Nat) (s : State) : State :=
  settleHead k { j with finalAngle := angle } c s

/-- A judged reply (R74 to R76): the max torque first, then the first test that holds. With a seat_count of 0, which only a
recipe word never written since cold reset can hold, no run is the seat_count: run and sum count on without the bounds of R68
(DESIGN CHOICE, notes/assumptions/23.md). -/
def judgeReply (k : Fin 12) (j : Jar) (torque angle : Nat) (s : State) : State :=
  let j1 := { j with maxTorque := max j.maxTorque torque }
  let sp := s.spindle k
  if s.rcs.jarField j .torqueCeiling < torque then settleBySpindle k j1 .overTorque angle s
  else if s.rcs.jarField j .angleLimit < angle then settleBySpindle k j1 .crossThread angle s
  else if s.rcs.jarField j .torqueTarget ≤ torque then
    let s1 := s.setSpindle k { sp with run := sp.run + 1, sum := sp.sum + torque }
    if sp.run + 1 = s.rcs.jarField j .seatCount then
      settleBySpindle k { j1 with seatTorque := (sp.sum + torque) / s.rcs.jarField j .seatCount } .seated angle s1
    else s1.setHead k { s.head k with jar := some j1 }
  else
    (s.setSpindle k { sp with run := 0, sum := 0 }).setHead k { s.head k with jar := some j1 }

/-- A valid reply with status OK (R73). -/
def takeOkReply (k : Fin 12) (torque angle : Nat) (s : State) : State :=
  let s1 := s.setSpindle k { s.spindle k with misses := 0, lastTorque := torque }
  match (s.head k).state, (s.head k).jar with
  | .torquing, some j =>
    if (s.spindle k).command.isRun then
      judgeReply k j torque angle (s1.setSpindle k { s1.spindle k with lastAngle := angle })
    else s1
  | _, _ => s1

/-- A valid reply with status FAULT (R79). -/
def takeFaultReply (k : Fin 12) (s : State) : State :=
  let s1 := s.raise .headDriveFault (headByte k)
  outOfServiceReport k (s1.setSpindle k { s1.spindle k with misses := 0 })

/-- The jar's missed-sample count, holding at 65535 (R77). -/
def countJarMiss (h : Head) : Head :=
  match h.jar with
  | some j => { h with jar := some { j with missed := min (j.missed + 1) 65535 } }
  | none => h

/-- A missed sample (R77, R78). The count is 0..3 (R68). -/
def takeMiss (k : Fin 12) (s : State) : State :=
  if (s.spindle k).command.countsMisses then
    let n := min ((s.spindle k).misses + 1) 3
    let s1 := (s.setSpindle k { s.spindle k with misses := n }).setHead k (countJarMiss (s.head k))
    if n = 3 then outOfServiceReport k (s1.raise .headLinkLost (headByte k)) else s1
  else s

/-- The arrival of head k's slot acts on what it brings (R72). -/
def takeSlot (k : Fin 12) (o : SlotOutcome) (s : State) : State :=
  match o with
  | .okReply torque angle => takeOkReply k torque angle s
  | .faultReply => takeFaultReply k s
  | .missed => takeMiss k s

/-- HEAD_BUS_SLOT_ARRIVAL (R72): the slot ends, and arrives once in its cycle (R69). A slot that is not in progress, because
it has arrived or a reset abandoned the cycle, takes no reply and no missed sample (R69, R86; notes/assumptions/4.md). -/
def execHeadBusSlotArrival (k : Fin 12) (r : Option Reply) (s : State) : Host.Outcome State Fault Refusal :=
  .next (if s.spu.inSlot k then takeSlot k (slotOutcome k r) (endSlot s) else s)

end Sys2Proof.Machine
end

