-- ==== Sys2Proof/Machine/Resets.lean ====
section
/-! DEFINITION. The two resets, block by block. -/

namespace Sys2Proof.Machine

/-- The Pitch Tracker's warm reset (R13, R8); the standstill timer does not run while STOPPED (notes/assumptions/11.md). -/
def warmPtk (t : Ptk) : Ptk :=
  { t with
    motion := .stopped
    standstill := 0
    speed := 0
    pitchTimer := 0
    originPresent := false
    p := 0
    sync := .unsynced
    lead := leadOf t.leadTable 0 }

/-- A head's warm reset: the jar part is removed, the service and the pending change are kept (R54). -/
def warmHead (h : Head) : Head := { h with state := .empty, jar := none }

/-- The Head Table's warm reset (R54). -/
def warmHeads (s : State) : State := allHeads.foldl (fun t k => t.setHead k (warmHead (t.head k))) s

/-- The Recipe Store's warm reset (R105): counts 0, a RETIRING bank refilled, the signature recomputed. -/
def warmRcs (r : Rcs) : Rcs :=
  let r1 := { r with a := { r.a with inFlight := 0 }, b := { r.b with inFlight := 0 } }
  if r1.retiring then r1.refill else { r1 with signature := bankSignature (r1.bank r1.live.other).words }

/-- Every block's warm reset (R158): R13, R31, R54, R67, R86, R105, R123, R134, R148, R164. CONFIG, the lead table, the
sample ring, the audit register, the tallies, the cursors and the strapped address are kept. -/
def warmReset (s : State) : State :=
  let s1 := warmHeads (s.setPtk (warmPtk s.ptk))
  let s2 := ((s1.setIfq []).setValves (Vector.replicate 12 false)).setSpu ⟨0, false, Vector.replicate 12 Spindle.reset⟩
  let s3 := ((s2.setRcs (warmRcs s2.rcs)).setOfl []).setScu { s2.scu with window := .closed }
  ((s3.setDsu { s3.dsu with rejectRun := 0 }).setLif Lif.reset).setFlt ⟨[], []⟩

/-- Every block's cold reset (R12, R31, R53, R67, R85, R104, R122, R134, R147, R156, R164), with the straps read (R159).
The other input pins are inputs and stand as they are; the queue of commands is not the station's. -/
def coldReset (straps : BitVec 6) (s : State) : State :=
  ((State.reset.setAddress (strapAddress straps)).setPins { s.pins with straps := straps }).setPending s.pending

/-- COLD_RESET (R12). -/
def execColdReset (straps : BitVec 6) (s : State) : Host.Outcome State Fault Refusal := .next (coldReset straps s)

end Sys2Proof.Machine
end

