-- ==== Sys2Proof/Machine/Management.lean ====
section
/-! DEFINITION. The Management Responder (spec/10): the requests, the tables behind the cursors and the responses. A
request command is the request at its arrival at the Management Responder (notes/assumptions/7.md). -/

namespace Sys2Proof.Machine

/-! ### Responses (R149, R165) -/

/-- A response is pushed into the Transmit Queue; lost without a fault when it is full (R144, R149). -/
def respond (code tag : Byte) (st : Status) (data : List Byte) (s : State) : State :=
  pushFrame ⟨lineMaster, s.address, kindRsp, code :: tag :: st.code :: data⟩ s

/-- A refused request: no effect, no data (R149). -/
def refuse (code tag : Byte) (st : Status) (s : State) : State := respond code tag st [] s

/-! ### Reading the station (R151, R152) -/

/-- The byte of one head in STATUS: state code plus 16 times the service code. -/
def headStatusByte (h : Head) : Byte := byteOfNat (h.state.code + 16 * h.service.code)

/-- Code, raised-at pitch and detail of the first fault, zeros when the list is empty (R151). -/
def firstFaultBytes (l : FaultList) : List Byte :=
  match l.list with
  | e :: _ => byteOfNat e.code.code :: wordBytes e.pitch ++ [e.detail]
  | [] => [0, 0, 0, 0]

/-- The data of a STATUS response (R151). -/
def statusData (s : State) : List Byte :=
  [byteOfNat s.ptk.sync.code, byteOfNat s.ptk.motion.code] ++ wordBytes (wordOfNat s.ptk.speed) ++ wordBytes s.ptk.p ++
  [byteOfNat s.ptk.lead, byteOfNat (s.rcs.role .a).code, byteOfNat (s.rcs.role .b).code,
    byteOfNat (s.rcs.bank .a).inFlight, byteOfNat (s.rcs.bank .b).inFlight] ++ wordBytes s.rcs.signature ++
  [byteOfNat s.flt.count] ++ firstFaultBytes s.flt ++
  [byteOfNat s.ifq.length, byteOfNat s.ofl.length, byteOfNat s.lif.transmitQueue.length] ++
  allHeads.map (fun k => headStatusByte (s.head k))

/-- One list entry in a FAULTS response. -/
def faultEntryBytes (e : FaultEntry) : List Byte := byteOfNat e.code.code :: wordBytes e.pitch ++ [e.detail]

/-- The data of a FAULTS response (R152). -/
def faultsData (l : FaultList) : List Byte :=
  byteOfNat l.list.length :: l.list.flatMap faultEntryBytes ++
    byteOfNat l.overflow.length :: l.overflow.map (fun e => byteOfNat e.code.code)

/-! ### Table words -/

/-- The words of a jar in the HEADS table, words 4 to 17 (R52). -/
def jarWord (j : Jar) (w : Nat) : Word :=
  match w with
  | 4 => if j.tracked then 1 else 2
  | 5 => j.record.pitch
  | 6 => (j.record.serial >>> 16).setWidth 16
  | 7 => j.record.serial.setWidth 16
  | 8 => j.record.recipe.setWidth 16
  | 9 => wordOfNat (tagCode j.tag + if j.usable then 4 else 0)
  | 10 => wordOfNat j.closure.code
  | 11 => wordOfNat j.flushAccrued
  | 12 => wordOfNat j.flushResult.code
  | 13 => wordOfNat (j.effectiveTemp.getD 0)
  | 14 => wordOfNat j.seatTorque
  | 15 => wordOfNat j.maxTorque
  | 16 => wordOfNat j.finalAngle
  | 17 => wordOfNat j.missed
  | _ => 0

/-- Word w of head k in the HEADS table (R52). -/
def headWord (s : State) (k : Fin 12) (w : Nat) : Word :=
  match w with
  | 0 => wordOfNat (s.angle k)
  | 1 => wordOfNat (s.head k).service.code
  | 2 => wordOfNat (pendingCode (s.head k).pendingService)
  | 3 => wordOfNat (s.head k).state.code
  | 18 => wordOfNat (s.spindle k).lastTorque
  | 19 => wordOfNat (s.spindle k).misses
  | _ => match (s.head k).jar with
    | some j => jarWord j w
    | none => 0

/-- Word i of TALLIES: the high and the low 16 bits of tally i / 2 (R132). -/
def tallyWord (t : Vector Nat 15) (i : Nat) : Word :=
  let n := t[i / 2]?.getD 0
  if i % 2 = 0 then wordOfNat (n / 65536) else wordOfNat (n % 65536)

/-- Word i of SAMPLE RING: the samples in two's complement, then the write index (R111). -/
def ringWord (u : Scu) (i : Nat) : Word :=
  if i < 64 then BitVec.ofInt 16 (u.ring[i]?.getD 0) else wordOfNat u.writeIndex

/-- Word i of a table as it stands (R153). -/
def tableWord (s : State) (t : Table) (i : Nat) : Word :=
  match t with
  | .live => (s.rcs.bank s.rcs.live).words[i]?.getD 0
  | .spare => (s.rcs.bank s.rcs.live.other).words[i]?.getD 0
  | .retiring => (s.rcs.bank s.rcs.live.other).words[i]?.getD 0
  | .lead => s.ptk.leadTable[i]?.getD 0
  | .config => s.cfg[i]?.getD 0
  | .tallies => tallyWord s.dsu.tallies i
  | .sampleRing => ringWord s.scu i
  | .heads => headWord s (Fin.ofNat 12 (i / 20)) (i % 20)

/-- The words of a table from index i on. -/
def tableWords (s : State) (t : Table) (i n : Nat) : List Word := (List.range n).map (fun j => tableWord s t (i + j))

/-- Why a READ of a table is refused, if it is (R96, R153). -/
def readRefusal (r : Rcs) : Table → Option Status
  | .spare => if r.retiring then some .busy else none
  | .retiring => if r.retiring then none else some .badTable
  | .live => none
  | .lead => none
  | .config => none
  | .tallies => none
  | .sampleRing => none
  | .heads => none

/-- Why a WRITE of a table is refused, if it is (R95, R153). -/
def writeRefusal (r : Rcs) : Table → Option Status
  | .live => some .badTable
  | .spare => if r.retiring then some .busy else none
  | .retiring => some .badTable
  | .lead => none
  | .config => none
  | .tallies => some .badTable
  | .sampleRing => some .badTable
  | .heads => some .badTable

/-- The words stored by a WRITE taken, each clamped by its own index (R95, R155); the signature follows a write into the
SPARE bank (R94). A table that refuses WRITE stores nothing. -/
def storeTable (t : Table) (i : Nat) (ws : List Word) (s : State) : State :=
  match t with
  | .spare =>
    let bank := s.rcs.bank s.rcs.live.other
    let words := storeWords clampRecipeWord ws i bank.words
    s.setRcs { s.rcs.setBank s.rcs.live.other { bank with words := words } with signature := bankSignature words }
  | .lead => s.setPtk { s.ptk with leadTable := storeWords clampLeadWord ws i s.ptk.leadTable }
  | .config => s.setCfg (storeWords clampConfigWord ws i s.cfg)
  | .live => s
  | .retiring => s
  | .tallies => s
  | .sampleRing => s
  | .heads => s

/-- How many of n words a cursor's table takes or gives from its index on (R155). -/
def transferCount (c : Cursor) (n : Nat) : Nat := min n (c.table.length - c.index)

/-! ### The requests (R150 to R158) -/

/-- STATUS (R151). -/
def requestStatus (tag : Byte) (s : State) : State := respond 1 tag .ok (statusData s) s

/-- FAULTS (R152). -/
def requestFaults (tag : Byte) (s : State) : State := respond 2 tag .ok (faultsData s.flt) s

/-- CLEAR_FAULT (R152, R162). -/
def requestClearFault (tag code : Byte) (s : State) : State :=
  if 16 < code.toNat then refuse 3 tag .badArg s
  else
    let l := s.flt.clearByNumber code.toNat
    respond 3 tag .ok [byteOfNat l.count] (s.setFlt l)

/-- CURSOR (R154). -/
def requestCursor (tag which table : Byte) (index : Word) (s : State) : State :=
  if 1 < which.toNat then refuse 4 tag .badArg s
  else match tableOfCode table.toNat with
    | none => refuse 4 tag .badTable s
    | some t =>
      let i := min index.toNat (t.length - 1)
      let r := if which.toNat = 0 then { s.rcs with readCursor := ⟨t, i⟩ } else { s.rcs with writeCursor := ⟨t, i⟩ }
      respond 4 tag .ok (byteOfNat t.code :: wordBytes (wordOfNat i)) (s.setRcs r)

/-- WRITE (R95, R155). -/
def requestWrite (tag count : Byte) (words : List Word) (s : State) : State :=
  if words.length ≠ count.toNat then refuse 5 tag .lengthError s
  else if count.toNat = 0 ∨ 20 < count.toNat then refuse 5 tag .badArg s
  else match writeRefusal s.rcs s.rcs.writeCursor.table with
    | some st => refuse 5 tag st s
    | none =>
      let c := s.rcs.writeCursor
      let n := transferCount c words.length
      let s1 := storeTable c.table c.index words s
      respond 5 tag .ok [byteOfNat n] (s1.setRcs { s1.rcs with writeCursor := { c with index := c.index + n } })

/-- READ (R96, R155). -/
def requestRead (tag count : Byte) (s : State) : State :=
  if count.toNat = 0 ∨ 20 < count.toNat then refuse 6 tag .badArg s
  else match readRefusal s.rcs s.rcs.readCursor.table with
    | some st => refuse 6 tag st s
    | none =>
      let c := s.rcs.readCursor
      let n := transferCount c count.toNat
      respond 6 tag .ok (byteOfNat n :: (tableWords s c.table c.index n).flatMap wordBytes)
        (s.setRcs { s.rcs with readCursor := { c with index := c.index + n } })

/-- The checks of COMMIT in order: the status, with the recipe named by RECIPE_INVALID (R98). -/
def commitCheck (r : Rcs) (expected : Word) : Status × List Byte :=
  if r.retiring then (.busy, [])
  else if expected ≠ r.signature then (.signatureMismatch, [])
  else match firstDisordered (r.bank r.live.other).words with
    | some n => (.recipeInvalid, [byteOfNat n])
    | none => (.accepted, [])

/-- An accepted COMMIT: SPARE becomes LIVE; the former LIVE bank becomes RETIRING with jars in flight, else SPARE with a
copy (R99). -/
def acceptCommit (r : Rcs) : Rcs :=
  let r1 := { r with live := r.live.other }
  if 0 < (r.bank r.live).inFlight then { r1 with retiring := true, signature := 0 } else r1.refill

/-- COMMIT (R98, R99). -/
def requestCommit (tag : Byte) (expected : Word) (s : State) : State :=
  let c := commitCheck s.rcs expected
  respond 7 tag c.1 c.2 (if c.1 = .accepted then s.setRcs (acceptCommit s.rcs) else s)

/-- The pending change after a HEAD_SERVICE with a value (R49). -/
def pendingAfter (current wanted : Service) : Option Service := if wanted = current then none else some wanted

/-- HEAD_SERVICE (R49, R157). -/
def requestHeadService (tag head value : Byte) (s : State) : State :=
  if 11 < head.toNat ∨ 1 < value.toNat then refuse 8 tag .badArg s
  else
    let k := Fin.ofNat 12 head.toNat
    let wanted : Service := if value.toNat = 0 then .inService else .outOfService
    let h := { s.head k with pendingService := pendingAfter (s.head k).service wanted }
    respond 8 tag .ok [byteOfNat h.service.code, byteOfNat (pendingCode h.pendingService)] (s.setHead k h)

/-- SEED_AUDIT (R128, R157). -/
def requestSeedAudit (tag : Byte) (v : Word) (s : State) : State :=
  respond 9 tag .ok (wordBytes ((auditSeed v).setWidth 16)) (s.setDsu { s.dsu with audit := auditSeed v })

/-- CLEAR_TALLIES (R133). -/
def requestClearTallies (tag : Byte) (s : State) : State :=
  respond 10 tag .ok [] (s.setDsu { s.dsu with tallies := Vector.replicate 15 0 })

/-- RESET_STATION (R158): the warm reset, then the response into the emptied Transmit Queue. -/
def requestReset (tag : Byte) (s : State) : State := respond 11 tag .ok [] (warmReset s)

/-- The arguments of a request with a known code (test 3 of R149, the layouts of R150 and R165). -/
def parseArguments (code tag : Byte) (args : List Byte) : Option Request :=
  match code.toNat with
  | 1 => if args = [] then some (.status tag) else none
  | 2 => if args = [] then some (.faults tag) else none
  | 3 => match args with
    | [c] => some (.clearFault tag c)
    | _ => none
  | 4 => match args with
    | [w, t, i1, i0] => some (.cursor tag w t (wordOf i1 i0))
    | _ => none
  | 5 => match args with
    | n :: bytes => if bytes.length = 2 * n.toNat then some (.write tag n (wordsOf bytes)) else none
    | [] => none
  | 6 => match args with
    | [n] => some (.read tag n)
    | _ => none
  | 7 => match args with
    | [s1, s0] => some (.commit tag (wordOf s1 s0))
    | _ => none
  | 8 => match args with
    | [h, v] => some (.headService tag h v)
    | _ => none
  | 9 => match args with
    | [v1, v0] => some (.seedAudit tag (wordOf v1 v0))
    | _ => none
  | 10 => if args = [] then some (.clearTallies tag) else none
  | 11 => if args = [] then some (.resetStation tag) else none
  | _ => none

/-- Tests 1 to 3 of R149 on a payload. -/
def parseRequest : List Byte → Request
  | [] => .refused 0 0 .lengthError
  | [code] => .refused code 0 .lengthError
  | code :: tag :: args =>
    if code.toNat = 0 ∨ 11 < code.toNat then .refused code tag .unknownRequest
    else (parseArguments code tag args).getD (.refused code tag .lengthError)

/-- A request carried out, with its tests 4 and 5. -/
def runRequest (r : Request) (s : State) : State :=
  match r with
  | .status tag => requestStatus tag s
  | .faults tag => requestFaults tag s
  | .clearFault tag code => requestClearFault tag code s
  | .cursor tag which table index => requestCursor tag which table index s
  | .write tag count words => requestWrite tag count words s
  | .read tag count => requestRead tag count s
  | .commit tag signature => requestCommit tag signature s
  | .headService tag head value => requestHeadService tag head value s
  | .seedAudit tag value => requestSeedAudit tag value s
  | .clearTallies tag => requestClearTallies tag s
  | .resetStation tag => requestReset tag s
  | .refused code tag st => refuse code tag st s

/-- A REQ frame's payload taken by the Management Responder (R149). -/
def takeRequest (payload : List Byte) (s : State) : State := runRequest (parseRequest payload) s

/-! ### The request commands -/

/-- STATUS (R151). -/
def execStatus (tag : Byte) (s : State) : Host.Outcome State Fault Refusal := .next (requestStatus tag s)

/-- FAULTS (R152). -/
def execFaults (tag : Byte) (s : State) : Host.Outcome State Fault Refusal := .next (requestFaults tag s)

/-- CLEAR_FAULT (R162). -/
def execClearFault (tag code : Byte) (s : State) : Host.Outcome State Fault Refusal :=
  .next (requestClearFault tag code s)

/-- CURSOR (R154). -/
def execCursor (tag which table : Byte) (index : Word) (s : State) : Host.Outcome State Fault Refusal :=
  .next (requestCursor tag which table index s)

/-- WRITE (R155). -/
def execWrite (tag count : Byte) (words : List Word) (s : State) : Host.Outcome State Fault Refusal :=
  .next (requestWrite tag count words s)

/-- READ (R155). -/
def execRead (tag count : Byte) (s : State) : Host.Outcome State Fault Refusal := .next (requestRead tag count s)

/-- COMMIT (R98). -/
def execCommit (tag : Byte) (expected : Word) (s : State) : Host.Outcome State Fault Refusal :=
  .next (requestCommit tag expected s)

/-- HEAD_SERVICE (R49). -/
def execHeadService (tag head value : Byte) (s : State) : Host.Outcome State Fault Refusal :=
  .next (requestHeadService tag head value s)

/-- SEED_AUDIT (R128). -/
def execSeedAudit (tag : Byte) (v : Word) (s : State) : Host.Outcome State Fault Refusal :=
  .next (requestSeedAudit tag v s)

/-- CLEAR_TALLIES (R133). -/
def execClearTallies (tag : Byte) (s : State) : Host.Outcome State Fault Refusal := .next (requestClearTallies tag s)

/-- RESET_STATION (R158). -/
def execResetStation (tag : Byte) (s : State) : Host.Outcome State Fault Refusal := .next (requestReset tag s)

/-- UNKNOWN_REQUEST (R149): a payload taken by the tests of R149; one that opens no request is answered with no effect
(notes/assumptions/19.md). -/
def execUnknownRequest (payload : List Byte) (s : State) : Host.Outcome State Fault Refusal :=
  .next (takeRequest payload s)

end Sys2Proof.Machine
end

