-- ==== Sys2Proof/Machine/Turret.lean ====
section
/-! DEFINITION. The Pitch Tracker's events (spec/01): the encoder report with the turret advance and the pitch event it may
be, and the standstill expiry. -/

namespace Sys2Proof.Machine

/-- The interval, the speed and the restart of the pitch timer (R5). -/
def measurePitch (t : Ptk) : Ptk :=
  { t with
    speed := if t.originPresent then speedOf t.pitchTimer else t.speed
    originPresent := true
    pitchTimer := 0 }

/-- The lead chosen from the table at the speed then standing (R8). -/
def chooseLead (t : Ptk) : Ptk := { t with lead := selectLead t.leadTable t.speed }

/-- The Pitch Tracker's part of a pitch event: P, then the speed, then the lead (R3). -/
def trackPitch (s : State) : State :=
  let s1 := setPitch (s.ptk.p + 1) s
  s1.setPtk (chooseLead (measurePitch s1.ptk))

/-- The head at the infeed at a pitch event (R2, R27). -/
def infeedHead (s : State) : Fin 12 := Fin.ofNat 12 (s.ptk.turret / Config.countsPerPitch)

/-- The stale removal of a pitch event in SYNCED (R26). -/
def purgeIfSynced (s : State) : State := if s.ptk.sync = .synced then purgeBehind s else s

/-- A pitch event (R3): the Pitch Tracker, then the release holds, the infeed, the exit and the Outfeed Line
(notes/assumptions/10.md). -/
def pitchEvent (s : State) : State :=
  let s1 := purgeIfSynced (clearPitchHolds (trackPitch s))
  serveExit (infeedHead s1 + 2) (serveInfeed (infeedHead s1) s1)

/-- The valve of every FLUSHING head below its target is opened (R63). -/
def reopenValves (s : State) : State :=
  allHeads.foldl (fun t k =>
    match (t.head k).jar with
    | some j =>
      if (t.head k).state = .flushing ∧ (t.rcs.jarField j .flushTime = 0 ∨ j.flushAccrued < t.rcs.jarField j .flushTime)
      then t.setValve k true
      else t
    | none => t) s

/-- A turret advance makes the motion state MOVING and restarts the standstill timer (R6); a change from STOPPED reopens
the valves (R63). -/
def startMoving (s : State) : State :=
  let s1 := s.setPtk { s.ptk with motion := .moving, standstill := 0 }
  if s.ptk.motion = .stopped then reopenValves s1 else s1

/-- The angle-driven transitions of the twelve heads at one turret advance (R38), in head order
(notes/assumptions/10.md). -/
def allTransitions (s : State) : State := allHeads.foldl (fun t k => headTransitions k t) s

/-- A turret advance (R1, R2, R3): the turret count moves by one and the high-water count with it. -/
def turretAdvance (s : State) : State :=
  let s1 := startMoving (s.setPtk { s.ptk with turret := (s.ptk.turret + 1) % Config.countsPerRevolution })
  allTransitions (if s1.ptk.turret % Config.countsPerPitch = 0 then pitchEvent s1 else s1)

/-- An encoder report (R1). -/
def encoderReport (d : Direction) (s : State) : State :=
  match d with
  | .backward =>
    if s.ptk.backlog < Config.countsPerRevolution - 1 then
      s.setPtk { s.ptk with
        turret := (s.ptk.turret + Config.countsPerRevolution - 1) % Config.countsPerRevolution
        backlog := s.ptk.backlog + 1 }
    else s
  | .forward =>
    if s.ptk.backlog = 0 then turretAdvance s
    else s.setPtk { s.ptk with
      turret := (s.ptk.turret + 1) % Config.countsPerRevolution
      backlog := s.ptk.backlog - 1 }

/-- The levels of the eyes and switches an encoder report finds. -/
def senseTurret (eye : Bool) (caps : BitVec 12) (s : State) : State :=
  s.setPins { s.pins with infeedEye := eye, capSwitches := caps }

/-- ENCODER_REPORT (R1). -/
def execEncoderReport (d : Direction) (eye : Bool) (caps : BitVec 12) (s : State) : Host.Outcome State Fault Refusal :=
  .next (encoderReport d (senseTurret eye caps s))

/-- Every valve CLOSED. -/
def closeValves (s : State) : State := s.setValves (Vector.replicate 12 false)

/-- The motion state becomes STOPPED and every OPEN valve closes (R6, R62). -/
def stopTurret (s : State) : State :=
  closeValves (s.setPtk { s.ptk with motion := .stopped, standstill := Config.standstillTime })

/-- STANDSTILL_EXPIRY (R6): the standstill timer reaches 50 while MOVING. The timer reads 50 when the tick of that
millisecond was taken first and 49 when it was not (R64, notes/assumptions/3.md); below that the expiry does not occur. -/
def execStandstillExpiry (s : State) : Host.Outcome State Fault Refusal :=
  .next (if s.ptk.motion = .moving ∧ Config.standstillTime ≤ s.ptk.standstill + 1 then stopTurret s else s)

end Sys2Proof.Machine
end

