-- ==== Sys2Proof/Machine/Link.lean ====
section
/-! DEFINITION. The Link Interface (spec/09): the receiver, the checks and the discard window, dispatch to the Infeed Queue,
the Pitch Tracker and the Management Responder, forwarding, and the events of the downstream port. -/

namespace Sys2Proof.Machine

/-! ### The discard window (R139) -/

/-- An outcome appended, the oldest removed from 257. -/
def windowAppend (w : List Bool) (discarded : Bool) : List Bool :=
  let w1 := w ++ [discarded]
  if Config.windowCapacity < w1.length then w1.drop 1 else w1

/-- A frame end whose frame passed. -/
def notePassed (s : State) : State :=
  s.setLif { s.lif with discardWindow := windowAppend s.lif.discardWindow false }

/-- A frame end whose frame is discarded; the eighth discard held raises LINK_NOISE and empties the window. -/
def noteDiscard (c : DiscardCause) (s : State) : State :=
  let w := windowAppend s.lif.discardWindow true
  if 8 ≤ w.count true then (s.setLif { s.lif with discardWindow := [] }).raise .linkNoise (byteOfNat c.code)
  else s.setLif { s.lif with discardWindow := w }

/-! ### A JAR frame at the Infeed Queue (R15, R19 to R22) -/

/-- A record taken into the queue (R20, R21). -/
def queueRecord (r : JarRecord) (s : State) : State :=
  if s.ifq.any (fun q => q.pitch == r.pitch) then s.setIfq (replaceRecord r s.ifq)
  else if s.ifq.length < Config.infeedCapacity then s.setIfq (insertRecord s.ptk.p r s.ifq)
  else s.raise .infeedOverflow (lowByte r.pitch)

/-- The arrival of a well-formed record: the tests of R19 in SYNCED, none while UNSYNCED (R22). -/
def recordArrival (r : JarRecord) (s : State) : State :=
  match s.ptk.sync with
  | .unsynced => queueRecord r s
  | .synced =>
    let o := recordOffset s.ptk.p r
    if o = 0 then s.raise .infeedStale (lowByte r.pitch)
    else if o ≤ 64 then queueRecord r s
    else if o ≤ 32768 then s.raise .pitchSkew (byteOfNat (min o 127))
    else s.raise .infeedStale (lowByte r.pitch)

/-- A JAR frame handed to the Infeed Queue; a malformed payload is discarded without a fault (R15). -/
def jarFrameArrival (payload : List Byte) (s : State) : State :=
  match parseRecord payload with
  | some r => recordArrival r s
  | none => s

/-! ### A PITCH frame at the Pitch Tracker (R9 to R11, R166) -/

/-- The detail of PITCH_SKEW: d clamped to −127..127 as a signed byte (R11). -/
def skewDetail (d : Int) : Byte := BitVec.ofInt 8 (clampInt (-127) 127 d)

/-- The master pitch m is taken (R9 to R11, R25). -/
def takeMasterPitch (m : Word) (s : State) : State :=
  let expected := m - s.configWord .pitchOffset
  match s.ptk.sync with
  | .unsynced =>
    let s1 := setPitch expected s
    purgeBehind (s1.setPtk { s1.ptk with sync := .synced })
  | .synced =>
    let d := (expected - s.ptk.p).toInt
    if -1 ≤ d ∧ d ≤ 1 then s else (setPitch expected s).raise .pitchSkew (skewDetail d)

/-- A PITCH frame handed to the Pitch Tracker; only a payload of 10 bytes is taken (R166). -/
def pitchFrameArrival (payload : List Byte) (s : State) : State :=
  match payload with
  | m1 :: m0 :: rest => if rest.length = 8 then takeMasterPitch (wordOf m1 m0) s else s
  | _ => s

/-! ### Dispatch and the end of a frame (R137, R138, R140) -/

/-- Dispatch of a frame that passed the checks (R140). A PITCH frame is handed over first and forwarded then
(notes/assumptions/9.md). -/
def dispatch (f : SealedFrame) (s : State) : State :=
  match dispatchAction s.address f.frame with
  | .toInfeed => jarFrameArrival f.frame.payload s
  | .toManagement => takeRequest f.frame.payload s
  | .drop => s
  | .trackAndForward => forwardFrame f (pitchFrameArrival f.frame.payload s)
  | .forward => forwardFrame f s

/-- The first test of R138 that a complete frame fails, if any. -/
def discardCauseOf (s : State) (f : SealedFrame) (parityError : Bool) : Option DiscardCause :=
  if parityError then some .parity
  else if !frameCheckPasses f then some .checkSequence
  else if toBeForwarded s.address f.frame ∧ s.lif.passFree = 0 then some .passFull
  else none

/-- A complete frame is checked, entered in the discard window and dispatched (R138 to R140). -/
def frameComplete (f : SealedFrame) (parityError : Bool) (s : State) : State :=
  match discardCauseOf s f parityError with
  | some c => noteDiscard c s
  | none => dispatch f (notePassed s)

def setReceiver (r : Receiver) (s : State) : State := s.setLif { s.lif with receiver := r }

/-- One character at the receiver (R135 to R137). -/
def receiveChar (s : State) (c : LinkChar) : State :=
  if charIdle c then s
  else match s.lif.receiver with
    | .hunt => if charMark c then setReceiver (.collect [c]) s else s
    | .collect cs =>
      if charMark c then setReceiver (.collect [c]) (noteDiscard .abandoned s)
      else match examineChars (cs ++ [c]) with
        | .more => setReceiver (.collect (cs ++ [c])) s
        | .overLength => noteDiscard .overLength (setReceiver .hunt s)
        | .complete f e => frameComplete f e (setReceiver .hunt s)

/-- FRAME_ARRIVAL (R136): the characters received, the last of which ends the frame (notes/assumptions/6.md). -/
def execFrameArrival (cs : List LinkChar) (s : State) : Host.Outcome State Fault Refusal :=
  .next (cs.foldl receiveChar s)

/-- CHARACTER_ARRIVAL (R136). -/
def execCharacterArrival (c : LinkChar) (s : State) : Host.Outcome State Fault Refusal := .next (receiveChar s c)

/-! ### Downstream port (R143, R145) -/

/-- TRANSMIT_COMPLETION (R143): the port becomes idle and the arbiter runs; with no frame in transmission there is no
completion (notes/assumptions/17.md). -/
def execTransmitCompletion (s : State) : Host.Outcome State Fault Refusal :=
  .next (if s.lif.sending = none then s else runArbiter (s.setLif { s.lif with sending := none }))

/-- DOWNSTREAM_HOLD_ASSERTED (R143): a frame in transmission is sent to its end. -/
def execDownstreamHoldAsserted (s : State) : Host.Outcome State Fault Refusal :=
  .next (s.setPins { s.pins with downstreamHold := true })

/-- DOWNSTREAM_HOLD_RELEASED (R145): the arbiter runs when the port is idle and a frame waits. -/
def execDownstreamHoldReleased (s : State) : Host.Outcome State Fault Refusal :=
  .next (runArbiterIfIdle (s.setPins { s.pins with downstreamHold := false }))

end Sys2Proof.Machine
end

