-- ==== Sys2Proof/Machine/Seal.lean ====
section
/-! DEFINITION. The Seal Check Unit's events (spec/07): the jar-eye edge and the sensor sample. -/

namespace Sys2Proof.Machine

/-- The window a jar-eye edge opens, with the settle count read at the edge (R112). -/
def openWindow (settle : Nat) : Window := if settle = 0 then .collecting [] 0 else .settling settle 0

/-- JAR_EYE_EDGE (R112): a new window opens whatever the state of the one before. -/
def execJarEyeEdge (s : State) : Host.Outcome State Fault Refusal :=
  .next (s.setScu { s.scu with window := openWindow (s.configWord .settleCount).toNat })

/-- A sample clamped to −500..2500 (R110). -/
def clampSample (v : Int) : Int := clampInt (-500) 2500 v

/-- The clamped sample is written into the ring and the write index moves on (R110). -/
def writeRing (v : Int) (u : Scu) : Scu :=
  { u with ring := u.ring.setIfInBounds u.writeIndex v, writeIndex := (u.writeIndex + 1) % 64 }

/-- The window takes a clamped sample (R113); eight samples complete the measurement (R114). -/
def windowSample (v : Int) (clamped : Bool) (s : State) : State :=
  match s.scu.window with
  | .closed => s
  | .settling settle skipped =>
    s.setScu { s.scu with
      window := if skipped + 1 = settle then .collecting [] 0 else .settling settle (skipped + 1) }
  | .collecting samples n =>
    let samples' := samples ++ [v]
    let n' := if clamped then n + 1 else n
    if 8 ≤ samples'.length then completeMeasurement samples' n' (s.setScu { s.scu with window := .closed })
    else s.setScu { s.scu with window := .collecting samples' n' }

/-- A sensor sample (R110, R113). -/
def takeSample (v : Int) (s : State) : State :=
  windowSample (clampSample v) (clampSample v != v) (s.setScu (writeRing (clampSample v) s.scu))

/-- SENSOR_SAMPLE_ARRIVAL (R110). -/
def execSensorSampleArrival (sample : BitVec 13) (s : State) : Host.Outcome State Fault Refusal :=
  .next (takeSample sample.toInt s)

end Sys2Proof.Machine
end

