-- ==== Sys2Proof/Machine/Dispatch.lean ====
section
/-! DEFINITION. The dispatch of each command to its meaning. -/

namespace Sys2Proof.Machine

def exec (i : Instr) (s : State) : Host.Outcome State Fault Refusal :=
  match i with
  | .encoderReport direction infeedEye capSwitches => Sys2Proof.Machine.execEncoderReport direction infeedEye capSwitches s
  | .standstillExpiry => Sys2Proof.Machine.execStandstillExpiry s
  | .flushMillisecondTick steamOk => Sys2Proof.Machine.execFlushMillisecondTick steamOk s
  | .headBusSyncSlot => Sys2Proof.Machine.execHeadBusSyncSlot s
  | .headSlotStart head => Sys2Proof.Machine.execHeadSlotStart head s
  | .headBusSlotArrival head reply => Sys2Proof.Machine.execHeadBusSlotArrival head reply s
  | .jarEyeEdge => Sys2Proof.Machine.execJarEyeEdge s
  | .sensorSampleArrival sample => Sys2Proof.Machine.execSensorSampleArrival sample s
  | .frameArrival chars => Sys2Proof.Machine.execFrameArrival chars s
  | .transmitCompletion => Sys2Proof.Machine.execTransmitCompletion s
  | .downstreamHoldAsserted => Sys2Proof.Machine.execDownstreamHoldAsserted s
  | .downstreamHoldReleased => Sys2Proof.Machine.execDownstreamHoldReleased s
  | .status tag => Sys2Proof.Machine.execStatus tag s
  | .faults tag => Sys2Proof.Machine.execFaults tag s
  | .clearFault tag code => Sys2Proof.Machine.execClearFault tag code s
  | .cursor tag which table index => Sys2Proof.Machine.execCursor tag which table index s
  | .write tag count words => Sys2Proof.Machine.execWrite tag count words s
  | .read tag count => Sys2Proof.Machine.execRead tag count s
  | .commit tag signature => Sys2Proof.Machine.execCommit tag signature s
  | .headService tag head value => Sys2Proof.Machine.execHeadService tag head value s
  | .seedAudit tag value => Sys2Proof.Machine.execSeedAudit tag value s
  | .clearTallies tag => Sys2Proof.Machine.execClearTallies tag s
  | .resetStation tag => Sys2Proof.Machine.execResetStation tag s
  | .unknownRequest payload => Sys2Proof.Machine.execUnknownRequest payload s
  | .coldReset straps => Sys2Proof.Machine.execColdReset straps s
  | .characterArrival char => Sys2Proof.Machine.execCharacterArrival char s

end Sys2Proof.Machine
end

