-- ==== Sys2Proof/Safety.lean ====
section
/-! DEFINITION. What holds of the station between events, as the manual says it: the bounds of its queues and lists, the
places of the jars, the counts in flight, the signature, the valves and the downstream port. -/

namespace Sys2Proof.Machine

/-- Turret count, backlog, P's timers and the speed lie in the ranges of spec/01's table (R1, R5, R6). -/
abbrev TrackerInRange (s : State) : Prop :=
  s.ptk.turret < 3600 ∧ s.ptk.backlog < 3600 ∧ s.ptk.pitchTimer ≤ 65535 ∧ s.ptk.speed ≤ 1200 ∧ s.ptk.standstill ≤ 50

/-- The Infeed Queue holds at most 24 records in strictly increasing order of offset, so no two of one pitch (R18). -/
abbrev QueueOrdered (s : State) : Prop :=
  s.ifq.length ≤ 24 ∧ s.ifq.Pairwise (fun a b => recordOffset s.ptk.p a < recordOffset s.ptk.p b)

/-- A context with no jar is EMPTY, and a context holding a jar is not (R32). -/
abbrev JarsMatchStates (s : State) : Prop := ∀ k : Fin 12, (s.head k).jar = none ↔ (s.head k).state = .empty

/-- A valve is OPEN only on a FLUSHING head while the motion state is MOVING (R56). -/
abbrev OpenValvesFlush (s : State) : Prop :=
  ∀ k : Fin 12, s.valve k = true → (s.head k).state = .flushing ∧ s.ptk.motion = .moving

/-- The spare signature is the signature of the SPARE bank, and 0 while a bank is RETIRING (R94). -/
abbrev SignatureCurrent (s : State) : Prop :=
  s.rcs.signature = if s.rcs.retiring then 0 else bankSignature (s.rcs.bank s.rcs.live.other).words

/-- A jar is tracked and tagged with a bank. -/
def taggedWith (i : BankId) (j : Jar) : Bool := j.tracked && j.tag == some i

/-- The head contexts that hold a tracked jar tagged with a bank. -/
def headsTagged (s : State) (i : BankId) : Nat :=
  allHeads.countP (fun k => match (s.head k).jar with
    | some j => taggedWith i j
    | none => false)

/-- The Outfeed Line entries that hold a tracked jar tagged with a bank. -/
def entriesTagged (s : State) (i : BankId) : Nat := s.ofl.countP (fun e => taggedWith i e.jar)

/-- A bank's in-flight count is the number of head contexts and Outfeed Line entries that hold a tracked jar tagged with
it; a bank is RETIRING only while its count is above 0, and the SPARE bank's count is 0 (R91, R92). -/
abbrev CountsMatchJars (s : State) : Prop :=
  (∀ i, (s.rcs.bank i).inFlight = headsTagged s i + entriesTagged s i) ∧
    (s.rcs.retiring = true ↔ 0 < (s.rcs.bank s.rcs.live.other).inFlight)

/-- A jar stands on a head only between infeed and exit (R47), and the turret count and backlog are counts of one
revolution (R1). -/
abbrev JarsBeforeExit (s : State) : Prop :=
  s.ptk.turret < 3600 ∧ s.ptk.backlog < 3600 ∧ ∀ k : Fin 12, (s.head k).jar ≠ none → s.angle k < 3000

/-- The fault list holds at most 8 entries; no code stands twice in list and overflow set together; the overflow set is
non-empty only while the list holds 8 (R161). -/
abbrev FaultListBounded (s : State) : Prop :=
  s.flt.list.length ≤ 8 ∧ ((s.flt.list ++ s.flt.overflow).map (fun e => e.code)).Nodup ∧
    (s.flt.overflow ≠ [] → s.flt.list.length = 8)

/-- The Outfeed Line holds at most 20 entries (R106). -/
abbrev OutfeedBounded (s : State) : Prop := s.ofl.length ≤ 20

/-- The Pass FIFO, the Transmit Queue and the discard window keep their bounds, and the window never holds 8 discards
between events (R139, R141, R144). -/
abbrev LinkBounded (s : State) : Prop :=
  s.lif.passFifo.length ≤ 12 ∧ s.lif.transmitQueue.length ≤ 8 ∧ s.lif.discardWindow.length ≤ 256 ∧
    s.lif.discardWindow.count true < 8

/-- No frame waits while the port is idle and the downstream HOLD is released (R145). -/
abbrev PortServed (s : State) : Prop :=
  s.lif.sending = none → s.pins.downstreamHold = false → s.lif.passFifo = [] ∧ s.lif.transmitQueue = []

/-- The audit register is not 0 (R127). -/
abbrev AuditNonzero (s : State) : Prop := s.dsu.audit ≠ 0

end Sys2Proof.Machine
end

