-- ==== Sys2Proof/WellFormed.lean ====
section
/-! DEFINITION. What a sender of commands keeps: the ranges the manual states for the values of an event and that the
types of Syntax do not already hold. The meanings are total, so an ill-formed command is not an error of the machine. -/

namespace Sys2Proof

/-- The start bit of a character is always 1 (R165). -/
def LinkChar.started (c : LinkChar) : Bool := c.getLsbD 0

/-- A reply names one of the twelve heads (R72). -/
def Reply.wellFormed (r : Reply) : Bool := decide (r.head < 12)

/-- A payload that opens no request of R150: shorter than the code and the tag, or with a code outside 1..11 (R149). -/
def opensNoRequest : List Byte → Bool
  | code :: _ :: _ => decide (code.toNat = 0 ∨ 11 < code.toNat)
  | _ => true

/-- The checks on each command. -/
def Instr.wellFormed : Instr → Bool
  | .encoderReport _ _ _ => true
  | .standstillExpiry => true
  | .flushMillisecondTick _ => true
  | .headBusSyncSlot => true
  | .headSlotStart _ => true
  | .headBusSlotArrival _ none => true
  | .headBusSlotArrival _ (some r) => r.wellFormed
  | .jarEyeEdge => true
  | .sensorSampleArrival _ => true
  | .frameArrival cs => !cs.isEmpty && cs.all LinkChar.started
  | .transmitCompletion => true
  | .downstreamHoldAsserted => true
  | .downstreamHoldReleased => true
  | .status _ => true
  | .faults _ => true
  | .clearFault _ _ => true
  | .cursor _ _ _ _ => true
  | .write _ _ ws => decide (3 + 2 * ws.length ≤ 48)
  | .read _ _ => true
  | .commit _ _ => true
  | .headService _ _ _ => true
  | .seedAudit _ _ => true
  | .clearTallies _ => true
  | .resetStation _ => true
  | .unknownRequest p => opensNoRequest p && decide (p.length ≤ 48)
  | .coldReset _ => true
  | .characterArrival c => c.started

end Sys2Proof
end

