-- ==== Sys2Proof/Certificates/Slice0/Obligations.lean ====
section
/-! DEFINITION. The statements for the provers. The helpers of `Sys2Proof.Claims` write the manual's tables down once; a
statement says that a command answers a next state and what that state holds, and the equation `t = s.setX … ` in it is its
frame: every block not set there is unchanged. -/

open Sys2Proof Sys2Proof.Machine

namespace Sys2Proof.Claims

/-! ### The turret -/

/-- The inputs held after an encoder report: only what is held of the infeed jar eye and the cap-present switches differs. -/
def inputsAfter (s t : State) : Pins := { s.pins with infeedEye := t.pins.infeedEye, capSwitches := t.pins.capSwitches }

/-- The turret count after a forward report (R1). -/
def nextCount (s : State) : Nat := if s.ptk.turret = 3599 then 0 else s.ptk.turret + 1

/-- The turret stands at its high-water count, so a forward report is a turret advance (R1). -/
abbrev AtFront (s : State) : Prop := s.ptk.turret < 3600 ∧ s.ptk.backlog = 0

/-- A forward report is also a pitch event (R3). -/
abbrev PitchDue (s : State) : Prop := AtFront s ∧ nextCount s % 300 = 0

/-- The lead of R8: of the lowest-numbered entry whose upper speed reaches the speed, else of entry 7. -/
abbrev LeadChosen (table : Vector Word 16) (speed lead : Nat) : Prop :=
  (∃ i, i < 8 ∧ speed ≤ leadUpper table i ∧ (∀ j, j < i → leadUpper table j < speed) ∧ lead = leadOf table i) ∨
  ((∀ i, i < 8 → leadUpper table i < speed) ∧ lead = leadOf table 7)

/-- A fault raised in a command: its code is active after it, and an entry not there before carries the P then standing and
the detail (R160, R161). -/
abbrev Entered (s t : State) (c : FaultCode) (detail : Byte) : Prop :=
  t.flt.active c = true ∧
    (s.flt.active c = false → (⟨c, t.ptk.p, detail⟩ : FaultEntry) ∈ t.flt.list ++ t.flt.overflow)

/-- The service standing at a load: the pending change, where there is one (R34). -/
def serviceAtLoad (h : Head) : Service := h.pendingService.getD h.service

/-- The jar part created at load (R33). -/
def freshJar (r : JarRecord) (tracked : Bool) (tag : Option BankId) (usable : Bool) (temp : Option Nat) (c : Closure) :
    Jar :=
  { record := r, tracked := tracked, tag := tag, usable := usable, effectiveTemp := temp, flushAccrued := 0,
    flushResult := .noResult, closure := c, seatTorque := 0, maxTorque := 0, finalAngle := 0, missed := 0 }

/-- What one turret advance reaches of a head: its state, its jar, its valve and its spindle. -/
structure View where
  state : HeadState
  jar : Jar
  valve : Bool
  spindle : Spindle
deriving DecidableEq, Repr

/-- Row 1 of R38: LOADED to FLUSHING at flush_start − lead, the valve opens (R39, R57). -/
def openRow (angle lead : Nat) (field : RecipeField → Nat) (v : View) : View :=
  if v.state = .loaded ∧ field .flushStart ≤ angle + lead then { v with state := .flushing, valve := true } else v

/-- Row 2: FLUSHING to FLUSHED at flush_end − lead, the valve closes, the result by the table of R60. -/
def closeRow (angle lead : Nat) (field : RecipeField → Nat) (v : View) : View :=
  if v.state = .flushing ∧ field .flushEnd ≤ angle + lead then
    { v with
      state := .flushed
      valve := false
      jar := { v.jar with
        flushResult :=
          if (field .flushTime = 0 ∧ v.jar.flushAccrued = 0) ∨ v.jar.flushAccrued < field .flushTime then .under
          else .full } }
  else v

/-- Row 3: FLUSHED to SETTLED with NOT_CAPPED, or to CAPPED, at apply_angle (R41, R42). -/
def applyRow (angle : Nat) (field : RecipeField → Nat) (chute : Nat) (switchOn : Bool) (v : View) : View :=
  if v.state = .flushed ∧ field .applyAngle ≤ angle then
    if (field .capType = 0 ∨ field .capType = chute) ∧ switchOn = true then { v with state := .capped }
    else { v with state := .settled, jar := { v.jar with closure := .notCapped } }
  else v

/-- Row 4: CAPPED to TORQUING at torque_start; the spindle's counters start from 0 (R43, R82). -/
def torqueRow (angle : Nat) (field : RecipeField → Nat) (v : View) : View :=
  if v.state = .capped ∧ field .torqueStart ≤ angle then
    { v with state := .torquing, spindle := { v.spindle with run := 0, sum := 0, misses := 0, lastAngle := 0 } }
  else v

/-- Row 5: TORQUING to SETTLED with UNDER_TORQUE at torque_end; the final angle is the last angle (R45, R82). -/
def zoneRow (angle : Nat) (field : RecipeField → Nat) (v : View) : View :=
  if v.state = .torquing ∧ field .torqueEnd ≤ angle then
    { v with state := .settled, jar := { v.jar with closure := .underTorque, finalAngle := v.spindle.lastAngle } }
  else v

/-- The rows of R38 in their order, each on what the one before leaves. -/
def pointsPassed (angle lead : Nat) (field : RecipeField → Nat) (chute : Nat) (switchOn : Bool) (v : View) : View :=
  zoneRow angle field (torqueRow angle field (applyRow angle field chute switchOn
    (closeRow angle lead field (openRow angle lead field v))))

/-- The spindle state of a head as a turret advance finds it: a pitch event clears a TO_PITCH set before it (R80). -/
def spindleAt (s : State) (k : Fin 12) : Spindle :=
  if nextCount s % 300 = 0 ∧ (s.spindle k).releaseHold = .toPitch then { s.spindle k with releaseHold := .free }
  else s.spindle k

/-- A head as a turret advance finds it: the valve of a FLUSHING head below its target reopens when the turret was STOPPED
(R63), and a pitch event clears a TO_PITCH set before it (R80). -/
def viewAt (s : State) (k : Fin 12) (j : Jar) : View where
  state := (s.head k).state
  jar := j
  valve :=
    if s.ptk.motion = .stopped ∧ (s.head k).state = .flushing ∧
        (s.rcs.jarField j .flushTime = 0 ∨ j.flushAccrued < s.rcs.jarField j .flushTime) then true
    else s.valve k
  spindle := spindleAt s k

/-- P is ahead of the entry's due pitch plus 2 (R108). -/
abbrev Late (p : Word) (e : OutfeedEntry) : Prop :=
  1 ≤ (p - (e.duePitch + 2)).toNat ∧ (p - (e.duePitch + 2)).toNat ≤ 32767

/-- The entries of the Outfeed Line that a pitch event leaves, before a jar joins (R108). -/
def keptAt (p : Word) (ofl : List OutfeedEntry) : List OutfeedEntry := ofl.filter (fun e => decide (¬Late p e))

/-! ### Completed jars -/

/-- The count of a tally one higher, holding at its largest value (R132). -/
def counted (n : Nat) : Nat := if n = 4294967295 then n else n + 1

/-- The tallies a disposition counts in (R132). -/
def countsIn (i : Nat) : Disposition → Bool
  | .pass => i == 0
  | .audit => i == 1
  | .reject c => i == 2 || i == c.code + 2

/-- The disposition of R126, with the audit register as it stands after its step. -/
def decided (cause : Option RejectCause) (exponent : Nat) (stepped : BitVec 10) : Disposition :=
  match cause with
  | some c => .reject c
  | none => if 1 ≤ exponent ∧ stepped.toNat % 2 ^ exponent = 0 then .audit else .pass

/-- Whether a disposition is a REJECT that brings the reject run to the limit (R129). -/
def runReached (run limit : Nat) : Disposition → Bool
  | .pass => false
  | .audit => false
  | .reject _ => decide (1 ≤ limit ∧ limit ≤ min (run + 1) 15)

/-- The reject-run counter after a completion (R129). -/
def runAfter (run limit : Nat) (d : Disposition) : Nat :=
  match d with
  | .pass => 0
  | .audit => 0
  | .reject _ => if runReached run limit d then 0 else min (run + 1) 15

/-- The jar's cause, disposition and what the Disposition Unit holds after it (R125 to R129, R132). -/
def causeFound (s : State) (j : Jar) (m : Option Int) : Option RejectCause :=
  rejectCause j.record.verdict j.closure (verdictOf s.rcs j m)

def dispositionOf (s : State) (j : Jar) (m : Option Int) : Disposition :=
  decided (causeFound s j m) (s.rcs.jarField j .auditExponent) (auditStep s.dsu.audit)

abbrev DisposedAs (s t : State) (j : Jar) (m : Option Int) : Prop :=
  t.dsu.audit = (if causeFound s j m = none then auditStep s.dsu.audit else s.dsu.audit) ∧
  t.dsu.rejectRun = runAfter s.dsu.rejectRun (s.configWord .rejectRunLimit).toNat (dispositionOf s j m) ∧
  ∀ i : Fin 15, t.dsu.tallies[i.val] =
    if countsIn i.val (dispositionOf s j m) then counted s.dsu.tallies[i.val] else s.dsu.tallies[i.val]

/-- The faults of a completion: REJECT_RUN where the run reaches the limit (R129), then LINK_BLOCKED where the frame is lost
(R144). -/
def completionFaults (s : State) (j : Jar) (m : Option Int) : FaultList :=
  let f := match dispositionOf s j m with
    | .pass => s.flt
    | .audit => s.flt
    | .reject c =>
      if runReached s.dsu.rejectRun (s.configWord .rejectRunLimit).toNat (.reject c) then
        s.flt.raise ⟨.rejectRun, s.ptk.p, BitVec.ofNat 8 c.code⟩
      else s.flt
  if 8 ≤ s.lif.transmitQueue.length then f.raise ⟨.linkBlocked, s.ptk.p, lowByte j.record.pitch⟩ else f

/-- The outgoing record (R130, R131). -/
def sentRecord (s : State) (j : Jar) (m : Option Int) : JarRecord :=
  let d := dispositionOf s j m
  { j.record with
    verdict := match d with
      | .pass => 1
      | .reject _ => 2
      | .audit => 3
    annotations := j.record.annotations.drop (j.record.annotations.length - 5) ++
      [⟨s.address,
        (match d with
          | .pass => 0
          | .audit => 13
          | .reject c => byteOfNat c.code),
        wordOfNat j.seatTorque,
        (match m with
          | some M => BitVec.ofInt 16 M
          | none => 0x8000#16)⟩] }

/-- The JAR frame of a completed jar (R131, R165). -/
def sentFrame (s : State) (j : Jar) (m : Option Int) : Frame :=
  ⟨(s.configWord .nextStation).setWidth 8, s.address, 2, recordBytes (sentRecord s j m)⟩

/-! ### The downstream port -/

/-- A frame the station makes, of a kind other than PITCH, is pushed (R144, R145): lost with 8 held, sent at once on an
idle port with the downstream HOLD released, else at the tail of the Transmit Queue. -/
def Pushed (s : State) (f : Frame) (l : Lif) : Prop :=
  if 8 ≤ s.lif.transmitQueue.length then l = s.lif
  else if s.lif.sending = none ∧ s.pins.downstreamHold = false then l = { s.lif with sending := some (sealFrame f) }
  else l = { s.lif with transmitQueue := s.lif.transmitQueue ++ [f] }

/-- The Recipe Store's part of a removal (R92, R101, R109): the bank of a tracked jar has one jar less in flight, the last
jar of a RETIRING bank completing the drain. -/
abbrev Released (r r' : Rcs) (j : Jar) : Prop :=
  (j.tracked = false ∨ j.tag = none → r' = r) ∧
  ∀ i, j.tracked = true → j.tag = some i →
    r'.live = r.live ∧ r'.readCursor = r.readCursor ∧ r'.writeCursor = r.writeCursor ∧
    (r'.bank i).inFlight = (r.bank i).inFlight - 1 ∧ (r'.bank i.other).inFlight = (r.bank i.other).inFlight ∧
    (r.role i = .retiring → (r.bank i).inFlight = 1 →
      r'.role i = .spare ∧ (∀ bank, (r'.bank bank).words = (r.bank r.live).words) ∧
      r'.signature = bankSignature (r.bank r.live).words) ∧
    (r.role i ≠ .retiring ∨ 2 ≤ (r.bank i).inFlight →
      r'.retiring = r.retiring ∧ r'.signature = r.signature ∧ ∀ bank, (r'.bank bank).words = (r.bank bank).words)

/-- A jar removed from the Outfeed Line is passed on whole (R109, R124): judged and counted, its JAR frame pushed, its bank
released. -/
def PassedOn (s t : State) (j : Jar) (m : Option Int) : Prop :=
  t = ((((s.setDsu t.dsu).setRcs t.rcs).setLif t.lif).setFlt (completionFaults s j m)) ∧ DisposedAs s t j m ∧
  Pushed s (sentFrame s j m) t.lif ∧ Released s.rcs t.rcs j

/-- Entries removed without a measurement are passed on one after the other, each whole before the next (R108, R109). -/
def PassedOnInOrder : List OutfeedEntry → State → State → Prop
  | [], s, t => t = s
  | e :: rest, s, t => ∃ u, PassedOn s u e.jar none ∧ PassedOnInOrder rest u t

/-- The entries that a pitch event removes, in the order of their removal, k being the head at the exit: the overdue ones,
oldest first, then the oldest of a line that still holds 20 when a jar is to join (R107, R108). -/
def removedAt (s : State) (k : Fin 12) : List OutfeedEntry :=
  s.ofl.filter (fun e => decide (Late (s.ptk.p + 1) e)) ++
    (if (s.head k).jar ≠ none ∧ 20 ≤ (keptAt (s.ptk.p + 1) s.ofl).length then (keptAt (s.ptk.p + 1) s.ofl).take 1 else [])

/-- The LIVE bank counts one jar more (R92). -/
def loadCounted (r : Rcs) : Rcs :=
  match r.live with
  | .a => { r with a := { r.a with inFlight := r.a.inFlight + 1 } }
  | .b => { r with b := { r.b with inFlight := r.b.inFlight + 1 } }

/-- Every entry of the Fault List of s is in that of t, and the two codes of a completion are active in t as in s. -/
abbrev FaultsCarried (s t : State) : Prop :=
  (∀ f ∈ s.flt.list ++ s.flt.overflow, f ∈ t.flt.list ++ t.flt.overflow) ∧
    t.flt.active .rejectRun = s.flt.active .rejectRun ∧ t.flt.active .linkBlocked = s.flt.active .linkBlocked

/-- The response to a request is pushed (R149, R165). -/
abbrev Answered (s : State) (code tag status : Byte) (data : List Byte) (l : Lif) : Prop :=
  Pushed s ⟨63, s.address, 4, code :: tag :: status :: data⟩ l

/-- A PITCH frame stamped with the bit of an address (R146, R166). -/
def stamped (own : Byte) (halt : Bool) (f : Frame) : Frame :=
  { f with
    payload := f.payload.mapIdx (fun i b =>
      if i = 9 - own.toNat / 8 then
        (if halt then b ||| (1#8 <<< (own.toNat % 8)) else b &&& ~~~(1#8 <<< (own.toNat % 8)))
      else b) }

/-- A forwarded frame as it leaves (R141, R146). -/
def leaving (s : State) (f : SealedFrame) : SealedFrame :=
  if f.frame.kind = 1 then sealFrame (stamped s.address s.flt.haltRequest f.frame) else f

/-- A frame of the station as it leaves (R144, R146). -/
def leavingOwn (s : State) (f : Frame) : SealedFrame :=
  if f.kind = 1 then sealFrame (stamped s.address s.flt.haltRequest f) else sealFrame f

/-- What a run of the arbiter on an idle port with the downstream HOLD released leaves (R142, R145). -/
def Arbitrated (s : State) (l : Lif) : Prop :=
  match s.lif.transmitQueue, s.lif.passFifo with
  | [], [] => l = { s.lif with sending := none }
  | f :: rest, [] => l = { s.lif with transmitQueue := rest, sending := some (leavingOwn s f) }
  | [], g :: later =>
    l = { s.lif with
      passFifo := later
      sending := some (leaving s g)
      upstreamHold := if later.length ≤ 6 then false else s.lif.upstreamHold }
  | f :: rest, g :: later =>
    if s.configWord .localFirst = 1 ∨ later.length + 1 ≤ 8 then
      l = { s.lif with transmitQueue := rest, sending := some (leavingOwn s f) }
    else
      l = { s.lif with
        passFifo := later
        sending := some (leaving s g)
        upstreamHold := if later.length ≤ 6 then false else s.lif.upstreamHold }

/-- What the forwarding of a frame leaves of the LIF, with room for it (R140 to R142, R145). -/
def Forwarded (s : State) (f : SealedFrame) (l : Lif) : Prop :=
  if s.lif.sending = none ∧ s.pins.downstreamHold = false then
    l = { s.lif with sending := some (leaving s f), upstreamHold := false }
  else
    l = { s.lif with
      passFifo := s.lif.passFifo ++ [f]
      upstreamHold := if 9 ≤ s.lif.passFifo.length + 1 then true else s.lif.upstreamHold }

/-! ### The upstream port -/

/-- The discard window with one outcome more, at most 256 of them (R139). -/
def outcomeAdded (w : List Bool) (discarded : Bool) : List Bool :=
  if 256 ≤ w.length then w.drop 1 ++ [discarded] else w ++ [discarded]

/-- A frame end entered as passed, with the receiver in HUNT (R136, R139). -/
def passed (s : State) : State :=
  s.setLif { s.lif with receiver := .hunt, discardWindow := outcomeAdded s.lif.discardWindow false }

/-- A frame end entered as a discard of a cause, with the receiver as given; the eighth discard held empties the window
and raises LINK_NOISE (R139). -/
def discarded (cause : Byte) (r : Receiver) (s : State) : State :=
  if (outcomeAdded s.lif.discardWindow true).count true = 8 then
    (s.setLif { s.lif with receiver := r, discardWindow := [] }).setFlt
      (s.flt.raise ⟨.linkNoise, s.ptk.p, cause⟩)
  else s.setLif { s.lif with receiver := r, discardWindow := outcomeAdded s.lif.discardWindow true }

/-- The frame that the characters of a whole frame carry (R136): address, source and kind, the length, that many payload
bytes, the check sequence high byte first. -/
def heard (cs : List LinkChar) : SealedFrame :=
  let b := cs.map charData
  let n := (b.getD 3 0).toNat
  ⟨⟨b.getD 0 0, b.getD 1 0, b.getD 2 0, (b.drop 4).take n⟩, b.getD (4 + n) 0 ++ b.getD (5 + n) 0⟩

/-- The arrival of a frame as a conforming sender sends it. -/
def arrival (f : Frame) : Instr := .frameArrival (frameChars (sealFrame f))

/-! ### Tables (R52, R87, R111, R132, R153, R156) -/

/-- The ranges of the twenty recipe words (R87). -/
def recipeRanges : List (Nat × Nat) :=
  [(0, 1), (61, 2900), (62, 2900), (20, 400), (62, 2950), (63, 2960), (64, 2970), (50, 1000), (60, 2000), (1, 8),
    (180, 1440), (0, 1000), (0, 63), (600, 990), (600, 990), (8, 16), (0, 500), (50, 1000), (0, 8), (0, 15)]

/-- The ranges of the CONFIG words (R156). -/
def configRanges : List (Nat × Nat) := [(0, 1023), (1, 16), (1, 63), (0, 15), (0, 31), (0, 15), (0, 1)]

/-- A value brought into a range (00_scope.md, Clamping). -/
def into (range : Nat × Nat) (w : Word) : Word :=
  if w.toNat < range.1 then BitVec.ofNat 16 range.1
  else if range.2 < w.toNat then BitVec.ofNat 16 range.2
  else w

/-- The value stored at a bank index (R88). -/
def storedInBank (i : Nat) (w : Word) : Word :=
  if i % 20 = 3 ∧ w = 0 then 0 else into (recipeRanges.getD (i % 20) (0, 0)) w

/-- The value stored at a LEAD index (R7). -/
def storedInLead (i : Nat) (w : Word) : Word := if i % 2 = 0 then into (0, 1200) w else into (0, 60) w

/-- The value stored at a CONFIG index (R156). -/
def storedInConfig (i : Nat) (w : Word) : Word := into (configRanges.getD i (0, 0)) w

/-- The words of a table after a WRITE of words from an index on, by the value each stored word takes (R95, R155). -/
abbrev Stored {n : Nat} (value : Nat → Word → Word) (words : List Word) (from_ : Nat) (old new : Vector Word n) : Prop :=
  ∀ i : Fin n, new[i.val] =
    if from_ ≤ i.val ∧ i.val < from_ + words.length then value i.val (words.getD (i.val - from_) 0) else old[i.val]

/-- The twenty words of one head in table HEADS (R52). -/
def headWords (s : State) (k : Fin 12) : List Word :=
  let h := s.head k
  [BitVec.ofNat 16 (s.angle k), if h.service = .inService then 0 else 1,
    (match h.pendingService with
      | none => 0
      | some .inService => 1
      | some .outOfService => 2),
    BitVec.ofNat 16 h.state.code] ++
  (match h.jar with
    | none => List.replicate 14 0
    | some j =>
      [if j.tracked then 1 else 2, j.record.pitch, j.record.serial.extractLsb' 16 16, j.record.serial.extractLsb' 0 16,
        j.record.recipe.setWidth 16,
        (match j.tag with
          | some .a => 0#16
          | some .b => 1#16
          | none => 2#16) + (if j.usable then 4 else 0),
        BitVec.ofNat 16 j.closure.code, BitVec.ofNat 16 j.flushAccrued, BitVec.ofNat 16 j.flushResult.code,
        (match j.effectiveTemp with
          | some v => BitVec.ofNat 16 v
          | none => 0),
        BitVec.ofNat 16 j.seatTorque, BitVec.ofNat 16 j.maxTorque, BitVec.ofNat 16 j.finalAngle,
        BitVec.ofNat 16 j.missed]) ++
  [BitVec.ofNat 16 (s.spindle k).lastTorque, BitVec.ofNat 16 (s.spindle k).misses]

/-- The words of a table in index order (R153). -/
def tableContents (s : State) : Table → List Word
  | .live => (s.rcs.bank s.rcs.live).words.toList
  | .spare => (s.rcs.bank s.rcs.live.other).words.toList
  | .retiring => (s.rcs.bank s.rcs.live.other).words.toList
  | .lead => s.ptk.leadTable.toList
  | .config => s.cfg.toList
  | .tallies => s.dsu.tallies.toList.flatMap (fun n => [BitVec.ofNat 16 (n / 65536), BitVec.ofNat 16 (n % 65536)])
  | .sampleRing => s.scu.ring.toList.map (fun v => BitVec.ofInt 16 v) ++ [BitVec.ofNat 16 s.scu.writeIndex]
  | .heads => allHeads.flatMap (headWords s)

/-! ### Head bus -/

/-- A reply of drive k that passes its check (R72). -/
abbrev Valid (k : Fin 12) (r : Reply) : Prop := r.head = k.val ∧ crc16 r.body = r.check

/-- The slot of head k is in progress: it has begun and has not ended with its arrival (R69). -/
abbrev InSlot (s : State) (k : Fin 12) : Prop := s.spu.position = k.val + 1 ∧ s.spu.slotEnded = false

/-- The slot in progress has ended with its arrival (R69). -/
def arrived (s : State) : State := s.setSpu { s.spu with slotEnded := true }

/-- The slot of head k is the next to begin: the sync slot is in progress and k is 0, or the slot of the head before has
ended (R69). -/
abbrev NextSlot (s : State) (k : Fin 12) : Prop :=
  s.spu.position = k.val ∧ (k ≠ 0 → s.spu.slotEnded = true)

/-- The last head slot of the cycle has ended (R69). -/
abbrev CycleOver (s : State) : Prop := s.spu.position = 12 ∧ s.spu.slotEnded = true

/-- The head context after an out-of-service report (R50, R81). -/
def outReported (lastAngle : Nat) (h : Head) : Head :=
  match h.jar with
  | some j =>
    if j.closure = .pending then
      { service := .outOfService, pendingService := none, state := .settled,
        jar := some { j with
          closure := .headLost
          finalAngle := if h.state = .torquing then lastAngle else j.finalAngle } }
    else { h with service := .outOfService, pendingService := none }
  | none => { h with service := .outOfService, pendingService := none }

/-! ### Invariants -/

/-- The overflow set is held in increasing order of code (notes/assumptions/15.md). -/
abbrev OverflowSorted (s : State) : Prop := s.flt.overflow.Pairwise (fun a b => a.code.code < b.code.code)

/-- A jar with a bank tag is tracked, the accumulator of a LOADED head is 0, and a head with a jar is SETTLED exactly when
the jar's closure result is not PENDING (R33, R35, R55). -/
abbrev JarsConsistent (s : State) : Prop :=
  ∀ (k : Fin 12) (j : Jar), (s.head k).jar = some j →
    (j.tag ≠ none → j.tracked = true) ∧ ((s.head k).state = .loaded → j.flushAccrued = 0) ∧
      ((s.head k).state = .settled ↔ j.closure ≠ .pending)

/-- Every record held, in the Infeed Queue, on a head or in the Outfeed Line, has at most six annotations (R14). -/
abbrev RecordsShort (s : State) : Prop :=
  (∀ r ∈ s.ifq, r.annotations.length ≤ 6) ∧
    (∀ (k : Fin 12) (j : Jar), (s.head k).jar = some j → j.record.annotations.length ≤ 6) ∧
    ∀ e ∈ s.ofl, e.jar.record.annotations.length ≤ 6

/-- The head bus is in one of its 13 slots, the sync slot having no arrival, and the miss count, last torque and last angle
of each head lie in their ranges (R68, R69). -/
abbrev HeadBusInRange (s : State) : Prop :=
  s.spu.position ≤ 12 ∧ (s.spu.position = 0 → s.spu.slotEnded = false) ∧
    ∀ k : Fin 12, (s.spindle k).misses ≤ 3 ∧ (s.spindle k).lastTorque ≤ 2047 ∧ (s.spindle k).lastAngle ≤ 4095

/-- No tally is above its largest value (R132). -/
abbrev TalliesBounded (s : State) : Prop := ∀ i : Fin 15, s.dsu.tallies[i.val] ≤ 4294967295

/-- A head's valve is OPEN exactly when the head is FLUSHING, the turret is MOVING and the flush is below its target
(R56). -/
abbrev ValvesFollow (s : State) : Prop :=
  ∀ k : Fin 12, s.valve k = true ↔
    (s.head k).state = .flushing ∧ s.ptk.motion = .moving ∧
      ∀ j, (s.head k).jar = some j →
        s.rcs.jarField j .flushTime = 0 ∨ j.flushAccrued < s.rcs.jarField j .flushTime

/-- Every valid recipe of the LIVE bank, and of a RETIRING bank, is in order (R89). -/
abbrev CommittedInOrder (s : State) : Prop :=
  ∀ (i : BankId) (r : Nat), r < 8 → s.rcs.role i ≠ .spare → bankField (s.rcs.bank i).words r .valid = 1 →
    recipeInOrder (s.rcs.bank i).words r = true

/-- The REJECT tally is the sum of the twelve cause tallies while it has not saturated (R132). -/
abbrev TalliesBalance (s : State) : Prop :=
  TalliesBounded s ∧
    (s.dsu.tallies[2] < 4294967295 → s.dsu.tallies[2] = (s.dsu.tallies.toList.drop 3).sum)

end Sys2Proof.Claims

open Sys2Proof.Claims

/-! ### The queue of commands and the resets -/

/-- A step takes the command at the front of the queue and answers what exec answers on the state with the queue's rest; on
an empty queue it idles (notes/assumptions/12.md). -/
def Obligations.StepTakesFrontCommand : Prop :=
  (∀ (c : Instr) (rest : List Instr) (s : State), s.pending = c :: rest → step s = exec c { s with pending := rest }) ∧
  ∀ s : State, s.pending = [] → step s = .next s

/-- COLD_RESET leaves every block as R12, R53, R85, R104, R122 and R147 list it, and the address the straps give; no reset
value that the model chose is stated here. -/
def Obligations.ColdResetLeaves : Prop :=
  ∀ (straps : BitVec 6) (s : State), ∃ t, exec (.coldReset straps) s = .next t ∧
    t.ptk.turret = 0 ∧ t.ptk.backlog = 0 ∧ t.highWater = 0 ∧ (∀ k, t.angle k = (3600 - 300 * k.val) % 3600) ∧
    t.ptk.motion = .stopped ∧ t.ptk.speed = 0 ∧ t.ptk.pitchTimer = 0 ∧ t.ptk.originPresent = false ∧ t.ptk.p = 0 ∧
    t.ptk.sync = .unsynced ∧ (∀ i, i < 8 → leadUpper t.ptk.leadTable i = 1200 ∧ leadOf t.ptk.leadTable i = 0) ∧
    t.ptk.lead = 0 ∧ t.cfg.toList = [0, 4, 63, 0, 4, 5, 0] ∧ t.ifq = [] ∧
    (∀ k, t.head k = ⟨.inService, none, .empty, none⟩ ∧ t.valve k = false ∧ t.accumulator k = 0 ∧
      t.spindle k = ⟨.idle, .free, 0, 0, 0, 0, 0⟩) ∧
    t.spu.position = 0 ∧ t.rcs.role .a = .live ∧ t.rcs.role .b = .spare ∧
    (∀ i, (t.rcs.bank i).words.toList = List.replicate 160 0 ∧ (t.rcs.bank i).inFlight = 0) ∧
    t.rcs.signature = crc16 (List.replicate 320 0) ∧ t.rcs.readCursor = ⟨.live, 0⟩ ∧ t.rcs.writeCursor = ⟨.live, 0⟩ ∧
    t.ofl = [] ∧ t.scu.ring.toList = List.replicate 64 0 ∧ t.scu.writeIndex = 0 ∧ t.scu.window = .closed ∧
    t.dsu.audit = 1 ∧ t.dsu.rejectRun = 0 ∧ t.dsu.tallies.toList = List.replicate 15 0 ∧
    t.lif.receiver = .hunt ∧ t.lif.passFifo = [] ∧ t.lif.transmitQueue = [] ∧ t.lif.sending = none ∧
    t.downstreamCharacters = [idleChar] ∧ t.lif.upstreamHold = false ∧ t.lif.discardWindow = [] ∧
    t.flt.list = [] ∧ t.flt.overflow = [] ∧ t.flt.haltRequest = false ∧
    t.address.toNat = (if straps.toNat = 0 then 1 else if straps.toNat = 63 then 62 else straps.toNat)

/-- RESET_STATION takes the warm reset of every block and then pushes its response, the first frame sent (R158). The model's
choices in it: every head angle is kept whatever the backlog, by R13 where R2's wording gives the angles by the turret count
(notes/assumptions/13.md), and the held input levels and the queue of commands are kept (notes/assumptions/1.md,
notes/assumptions/12.md). -/
def Obligations.WarmResetLeaves : Prop :=
  ∀ (tag : Byte) (s : State), ∃ t, exec (.resetStation tag) s = .next t ∧
    t.ptk.turret = s.ptk.turret ∧ t.ptk.backlog = s.ptk.backlog ∧ t.highWater = s.highWater ∧
    (∀ k, t.angle k = s.angle k) ∧ t.ptk.motion = .stopped ∧ t.ptk.speed = 0 ∧ t.ptk.pitchTimer = 0 ∧
    t.ptk.originPresent = false ∧ t.ptk.p = 0 ∧ t.ptk.sync = .unsynced ∧ t.ptk.leadTable = s.ptk.leadTable ∧
    t.ptk.lead = leadOf s.ptk.leadTable 0 ∧ t.cfg = s.cfg ∧ t.ifq = [] ∧
    (∀ k, t.head k = { s.head k with state := .empty, jar := none } ∧ t.valve k = false ∧ t.accumulator k = 0 ∧
      t.spindle k = ⟨.idle, .free, 0, 0, 0, 0, 0⟩) ∧
    t.spu.position = 0 ∧ t.rcs.live = s.rcs.live ∧ t.rcs.retiring = false ∧
    (t.rcs.bank s.rcs.live).words = (s.rcs.bank s.rcs.live).words ∧
    (t.rcs.bank s.rcs.live.other).words =
      (if s.rcs.retiring then (s.rcs.bank s.rcs.live).words else (s.rcs.bank s.rcs.live.other).words) ∧
    (∀ i, (t.rcs.bank i).inFlight = 0) ∧ t.rcs.signature = bankSignature (t.rcs.bank s.rcs.live.other).words ∧
    t.rcs.readCursor = s.rcs.readCursor ∧ t.rcs.writeCursor = s.rcs.writeCursor ∧ t.ofl = [] ∧
    t.scu = { s.scu with window := .closed } ∧ t.dsu = { s.dsu with rejectRun := 0 } ∧
    (let response := sealFrame ⟨63, s.address, 4, [11, tag, 0]⟩
     t.lif =
      if s.pins.downstreamHold then ⟨.hunt, [], [response.frame], none, false, []⟩
      else ⟨.hunt, [], [], some response, false, []⟩) ∧
    t.flt = ⟨[], []⟩ ∧ t.address = s.address ∧ t.pins = s.pins ∧ t.pending = s.pending

/-! ### The turret -/

/-- The table of R1, row by row; a report that is not a turret advance changes only the turret count and the backlog, and
what is held of the two inputs whose levels come with a report. -/
def Obligations.EncoderReportCounts : Prop :=
  ∀ (d : Direction) (eye : Bool) (caps : BitVec 12) (s : State), s.ptk.turret < 3600 → s.ptk.backlog < 3600 →
    ∃ t, exec (.encoderReport d eye caps) s = .next t ∧
      (d = .backward → s.ptk.backlog < 3599 →
        t = ((s.setPins (inputsAfter s t)).setPtk { s.ptk with
          turret := if s.ptk.turret = 0 then 3599 else s.ptk.turret - 1, backlog := s.ptk.backlog + 1 }) ∧
        t.highWater = s.highWater ∧ ∀ k, t.angle k = s.angle k) ∧
      (d = .backward → s.ptk.backlog = 3599 →
        t = s.setPins (inputsAfter s t)) ∧
      (d = .forward → 1 ≤ s.ptk.backlog →
        t = ((s.setPins (inputsAfter s t)).setPtk { s.ptk with
          turret := nextCount s, backlog := s.ptk.backlog - 1 }) ∧
        t.highWater = s.highWater ∧ ∀ k, t.angle k = s.angle k) ∧
      (d = .forward → s.ptk.backlog = 0 →
        t.ptk.turret = nextCount s ∧ t.ptk.backlog = 0 ∧ t.highWater = nextCount s ∧
        (∀ k, t.angle k = (nextCount s + (3600 - 300 * k.val)) % 3600) ∧ t.ptk.motion = .moving ∧
        t.ptk.standstill = 0)

/-- A turret advance between two pitches: the tracker moves on by one count and the turret is MOVING; heads, valves,
spindles and the Fault List may change, the rest does not. -/
def Obligations.AdvanceBetweenPitches : Prop :=
  ∀ (eye : Bool) (caps : BitVec 12) (s : State), AtFront s → nextCount s % 300 ≠ 0 →
    ∃ t, exec (.encoderReport .forward eye caps) s = .next t ∧
      t.ptk = { s.ptk with turret := nextCount s, motion := .moving, standstill := 0 } ∧
      t = ((((((s.setPins (inputsAfter s t)).setPtk t.ptk).setHeads
        t.heads).setValves t.valves).setSpu { s.spu with heads := t.spu.heads }).setFlt t.flt) ∧
      ∀ k, (t.head k).service = (s.head k).service ∧ (t.head k).pendingService = (s.head k).pendingService

/-- A pitch event at the Pitch Tracker: P, then the speed, then the lead (R3, R5, R8), and what it leaves unchanged. -/
def Obligations.PitchEventTracks : Prop :=
  ∀ (eye : Bool) (caps : BitVec 12) (s : State), PitchDue s →
    ∃ t, exec (.encoderReport .forward eye caps) s = .next t ∧
      t.ptk.p = s.ptk.p + 1 ∧
      t.ptk.speed = (if s.ptk.originPresent then
        min (60000 / (if s.ptk.pitchTimer = 0 then 1 else s.ptk.pitchTimer)) 1200 else s.ptk.speed) ∧
      LeadChosen s.ptk.leadTable t.ptk.speed t.ptk.lead ∧
      t.ptk = ⟨nextCount s, 0, s.ptk.p + 1, 0, true, t.ptk.speed, .moving, 0, s.ptk.leadTable, t.ptk.lead, s.ptk.sync⟩ ∧
      t.cfg = s.cfg ∧ t.scu = s.scu ∧ t.address = s.address ∧ t.pending = s.pending ∧
      t.pins = inputsAfter s t ∧ t.spu = { s.spu with heads := t.spu.heads } ∧
      t.rcs.live = s.rcs.live ∧ t.rcs.readCursor = s.rcs.readCursor ∧ t.rcs.writeCursor = s.rcs.writeCursor ∧
      t.lif.receiver = s.lif.receiver ∧ t.lif.discardWindow = s.lif.discardWindow

/-- At every turret advance each head that is neither at the infeed nor at the exit passes the points of R38 in their
order, with the fields of its jar's bank, the lead as it stands, the chute type and its cap-present switch. That a zone end
with a non-zero flush time already reached gives FULL, a case no run meets, is the model's (notes/assumptions/16.md). A head
with no jar keeps its context and its valve. A TO_PITCH release hold lasts through the advances between two pitch events and is
cleared by the next, with a jar on the head or without (R80). The heads at the infeed and at the exit are those of
InfeedTracked, InfeedUnmatched and ExitToOutfeed. -/
def Obligations.HeadsPassTheirPoints : Prop :=
  ∀ (eye : Bool) (caps : BitVec 12) (s : State) (k : Fin 12), AtFront s → s.angle k ≠ 2999 → s.angle k ≠ 3599 →
    ∃ t, exec (.encoderReport .forward eye caps) s = .next t ∧ t.angle k = s.angle k + 1 ∧
      (∀ j, (s.head k).jar = some j →
        (let v := pointsPassed (s.angle k + 1) t.ptk.lead (t.rcs.jarField j) (s.configWord .chuteType).toNat
          (caps.getLsbD k.val) (viewAt s k j)
         t.head k = { s.head k with state := v.state, jar := some v.jar } ∧ t.valve k = v.valve ∧
          t.spindle k = v.spindle)) ∧
      ((s.head k).jar = none →
        t.head k = s.head k ∧ t.valve k = s.valve k ∧ t.spindle k = spindleAt s k)

/-- The faults of the apply angle, CAP_TYPE_MISMATCH before CAP_MISSING (R41, R42), for a head that is the only one to reach it
at this advance, whatever jars the turret carries: the Fault List whole between two pitches, and at a pitch event, which may
raise others, the entry of the fault and the two codes. -/
def Obligations.CapFaults : Prop :=
  ∀ (eye : Bool) (caps : BitVec 12) (s : State) (k : Fin 12) (j : Jar), AtFront s → (s.head k).jar = some j →
    (s.head k).state = .flushed → s.rcs.jarField j .applyAngle ≤ s.angle k + 1 → s.angle k + 1 < 3600 →
    (∀ i, i ≠ k → ∀ j', (s.head i).jar = some j' → (s.head i).state ∈ [HeadState.loaded, .flushing, .flushed] →
      s.angle i + 1 < s.rcs.jarField j' .applyAngle) →
    (let cap := s.rcs.jarField j .capType
     let chute := (s.configWord .chuteType).toNat
     let mismatch : Byte := BitVec.ofNat 8 (cap * 16 + chute)
     ∃ t, exec (.encoderReport .forward eye caps) s = .next t ∧
      (nextCount s % 300 ≠ 0 → t.flt =
        if cap ≠ 0 ∧ cap ≠ chute then s.flt.raise ⟨.capTypeMismatch, s.ptk.p, mismatch⟩
        else if caps.getLsbD k.val = false then s.flt.raise ⟨.capMissing, s.ptk.p, BitVec.ofNat 8 k.val⟩
        else s.flt) ∧
      (CommittedInOrder s → CountsMatchJars s → JarsConsistent s →
        (cap ≠ 0 → cap ≠ chute →
          Entered s t .capTypeMismatch mismatch ∧ t.flt.active .capMissing = s.flt.active .capMissing) ∧
        (cap = 0 ∨ cap = chute → t.flt.active .capTypeMismatch = s.flt.active .capTypeMismatch ∧
          (caps.getLsbD k.val = false → Entered s t .capMissing (BitVec.ofNat 8 k.val)) ∧
          (caps.getLsbD k.val = true → t.flt.active .capMissing = s.flt.active .capMissing))))

/-- A pitch event in SYNCED removes every record behind the new P and raises INFEED_STALE with the low byte of the first of
them in queue order; in UNSYNCED it removes none (R26). -/
def Obligations.StaleRecordsRemoved : Prop :=
  ∀ (eye : Bool) (caps : BitVec 12) (s : State), PitchDue s → QueueOrdered s →
    ∃ t, exec (.encoderReport .forward eye caps) s = .next t ∧
      (s.ptk.sync = .synced →
        (∀ q ∈ t.ifq, behind q.pitch t.ptk.p = false) ∧
        ∀ q ∈ s.ifq, behind q.pitch t.ptk.p = true →
          (∀ q' ∈ s.ifq, behind q'.pitch t.ptk.p = true → recordOffset t.ptk.p q ≤ recordOffset t.ptk.p q') →
          Entered s t .infeedStale (lowByte q.pitch)) ∧
      (s.ptk.sync = .unsynced →
        (∀ q ∈ s.ifq, q.pitch ≠ t.ptk.p → q ∈ t.ifq) ∧ t.flt.active .infeedStale = s.flt.active .infeedStale)

/-- The tracked case of the infeed match and the load of the jar in each service and recipe state (R27, R28, R34 to R37). The
LOADED case has the ranges that R7 and R87 give the lead and flush_start, so that no point is reached at the load. That a jar
with a temperature in its record and no usable recipe holds it clamped, by R36 where R117 speaks of none, is the model's
(notes/assumptions/24.md), and so is the 0 that a jar takes from a Tdef never written since cold reset, where R33 knows only
600..990 and none (notes/assumptions/25.md). -/
def Obligations.InfeedTracked : Prop :=
  ∀ (caps : BitVec 12) (s : State) (k : Fin 12) (r : JarRecord), PitchDue s → QueueOrdered s → s.angle k = 3599 →
    r ∈ s.ifq → r.pitch = s.ptk.p + 1 →
    ∃ t, exec (.encoderReport .forward true caps) s = .next t ∧
      (∀ q, q ∈ t.ifq ↔ q ∈ s.ifq ∧ q ≠ r ∧ (s.ptk.sync = .synced → behind q.pitch t.ptk.p = false)) ∧
      (t.spindle k).releaseHold = .free ∧
      (s.ofl = [] → (t.rcs.bank s.rcs.live).inFlight = (s.rcs.bank s.rcs.live).inFlight + 1) ∧
      (let words := (s.rcs.bank s.rcs.live).words
       let usable := decide (r.recipe.toNat ≤ 7 ∧ bankField words r.recipe.toNat .valid = 1)
       let temp := if r.tempPresent then some (max 600 (min 990 r.temp.toNat))
         else if usable then some (bankField words r.recipe.toNat .defaultTemp) else none
       (serviceAtLoad (s.head k) = .outOfService →
         t.valve k = false ∧ t.head k = ⟨.outOfService, none, .settled,
           some (freshJar r true (some s.rcs.live) usable temp .headLost)⟩) ∧
       (serviceAtLoad (s.head k) = .inService → usable = false →
         t.valve k = false ∧ t.head k = ⟨.inService, none, .settled,
           some (freshJar r true (some s.rcs.live) false temp .noRecipe)⟩ ∧ Entered s t .recipeUnusable r.recipe) ∧
       (serviceAtLoad (s.head k) = .inService → usable = true → (∀ i, i < 8 → leadOf s.ptk.leadTable i ≤ 60) →
         61 ≤ bankField words r.recipe.toNat .flushStart →
         t.valve k = false ∧ t.head k = ⟨.inService, none, .loaded,
           some (freshJar r true (some s.rcs.live) true temp .pending)⟩))

/-- The ghost, stray and empty cases of the infeed match (R27, R29, R30). -/
def Obligations.InfeedUnmatched : Prop :=
  ∀ (eye : Bool) (caps : BitVec 12) (s : State) (k : Fin 12), PitchDue s → QueueOrdered s → s.angle k = 3599 →
    (eye = true → ∀ r ∈ s.ifq, r.pitch ≠ s.ptk.p + 1) →
    ∃ t, exec (.encoderReport .forward eye caps) s = .next t ∧
      (∀ q, q ∈ t.ifq ↔
        q ∈ s.ifq ∧ q.pitch ≠ s.ptk.p + 1 ∧ (s.ptk.sync = .synced → behind q.pitch t.ptk.p = false)) ∧
      t.valve k = false ∧ (t.spindle k).releaseHold = .free ∧
      (eye = false →
        t.head k = ⟨serviceAtLoad (s.head k), none, .empty, none⟩ ∧
        ∀ r ∈ s.ifq, r.pitch = s.ptk.p + 1 → Entered s t .ghostRecord (BitVec.ofNat 8 k.val)) ∧
      (eye = true →
        t.head k = ⟨serviceAtLoad (s.head k), none, .settled,
          some (freshJar ⟨s.ptk.p + 1, 0, 15, 0, false, 0, []⟩ false none false none .untracked)⟩ ∧
        (s.ptk.sync = .synced → Entered s t .strayJar (BitVec.ofNat 8 k.val)) ∧
        (s.ptk.sync = .unsynced → t.flt.active .strayJar = s.flt.active .strayJar))

/-- The exit: the SETTLED jar of the head at the exit joins the Outfeed Line with exit pitch P and due pitch P + D, after
the overdue entries have gone, the oldest making room in a line of 20; an EMPTY head hands over nothing (R47, R66, R80,
R107, R108). -/
def Obligations.ExitToOutfeed : Prop :=
  ∀ (eye : Bool) (caps : BitVec 12) (s : State) (k : Fin 12), PitchDue s → OutfeedBounded s → s.angle k = 2999 →
    ∃ t, exec (.encoderReport .forward eye caps) s = .next t ∧
      (∀ j, (s.head k).jar = some j → (s.head k).state = .settled →
        t.ofl = (if (keptAt (s.ptk.p + 1) s.ofl).length < 20 then keptAt (s.ptk.p + 1) s.ofl
          else (keptAt (s.ptk.p + 1) s.ofl).drop 1) ++
            [⟨j, s.ptk.p + 1, s.ptk.p + 1 + s.configWord .outfeedDelay⟩] ∧
        t.head k = { s.head k with state := .empty, jar := none } ∧ t.valve k = false ∧ t.accumulator k = 0 ∧
        t.spindle k = { s.spindle k with
          releaseHold := if (s.spindle k).releaseHold = .toLoad then .toLoad else .toPitch }) ∧
      ((s.head k).jar = none →
        t.ofl = keptAt (s.ptk.p + 1) s.ofl ∧ t.head k = s.head k ∧
        t.spindle k = { s.spindle k with
          releaseHold := if (s.spindle k).releaseHold = .toLoad then .toLoad else .free })

/-- At a pitch event the overdue entries, oldest first, and then the one that makes room are passed on with no measurement,
each whole before the next (R107 to R109, R124 to R132), after a load has counted its jar (R92). The state u is the one the
removals find and v the one they leave; the Disposition Unit, the Recipe Store and the Link Interface stay as v has them. -/
def Obligations.OverdueJarCompleted : Prop :=
  ∀ (eye : Bool) (caps : BitVec 12) (s : State) (k : Fin 12), PitchDue s → OutfeedBounded s → PortServed s →
    RecordsShort s → TalliesBounded s → s.angle k = 2999 →
    ∃ t u v, exec (.encoderReport .forward eye caps) s = .next t ∧
      u.dsu = s.dsu ∧ u.lif = s.lif ∧ u.cfg = s.cfg ∧ u.address = s.address ∧ u.ptk.p = s.ptk.p + 1 ∧
      u.pins.downstreamHold = s.pins.downstreamHold ∧
      u.rcs = (if eye = true ∧ ∃ r ∈ s.ifq, r.pitch = s.ptk.p + 1 then loadCounted s.rcs else s.rcs) ∧
      FaultsCarried s u ∧ PassedOnInOrder (removedAt s k) u v ∧
      t.dsu = v.dsu ∧ t.rcs = v.rcs ∧ t.lif = v.lif ∧ FaultsCarried v t

/-! ### Standstill and the millisecond -/

/-- STANDSTILL_EXPIRY while MOVING makes the turret STOPPED and closes every valve, the heads keeping their state and count
(R6, R62). FLUSH_MILLISECOND_TICK counts the pitch timer and, while MOVING, the standstill timer, and changes nothing else but
heads, valves and the Fault List (R5, R6, R58). That the expiry acts from a timer of 49 on and does nothing below it or while
STOPPED, and that the timers count at this tick, is the model's (notes/assumptions/2.md, notes/assumptions/3.md). -/
def Obligations.StandstillAndTimers : Prop :=
  (∀ s : State, ∃ t, exec .standstillExpiry s = .next t ∧
    (s.ptk.motion = .moving → 49 ≤ s.ptk.standstill →
      t = (s.setPtk { s.ptk with motion := .stopped, standstill := 50 }).setValves t.valves ∧ ∀ k, t.valve k = false) ∧
    (s.ptk.motion = .stopped ∨ s.ptk.standstill < 49 → t = s)) ∧
  ∀ (ok : Bool) (s : State), s.ptk.pitchTimer ≤ 65535 → s.ptk.standstill ≤ 50 →
    ∃ t, exec (.flushMillisecondTick ok) s = .next t ∧
      t.ptk = { s.ptk with
        pitchTimer := if s.ptk.pitchTimer = 65535 then 65535 else s.ptk.pitchTimer + 1
        standstill := if s.ptk.motion = .moving ∧ s.ptk.standstill < 50 then s.ptk.standstill + 1
          else s.ptk.standstill } ∧
      t = (((((s.setPtk t.ptk).setPins { s.pins with steamOk := t.pins.steamOk }).setHeads t.heads).setValves
        t.valves).setFlt t.flt)

/-- FLUSH_MILLISECOND_TICK on the valves: with steam OK every OPEN valve's accumulator adds 1 and a flush that reaches its
target ends FULL (R58); with steam LOW nothing accrues and STEAM_LOW is raised with the lowest OPEN head (R59). -/
def Obligations.FlushTickAccrues : Prop :=
  ∀ (ok : Bool) (s : State), OpenValvesFlush s → JarsMatchStates s →
    ∃ t, exec (.flushMillisecondTick ok) s = .next t ∧
      (ok = false → t.heads = s.heads ∧ t.valves = s.valves ∧
        (∀ k, s.valve k = true → (∀ i, i < k → s.valve i = false) →
          t.flt = s.flt.raise ⟨.steamLow, s.ptk.p, BitVec.ofNat 8 k.val⟩) ∧
        ((∀ k, s.valve k = false) → t.flt = s.flt)) ∧
      (ok = true → t.flt = s.flt ∧
        ∀ k, (s.valve k = false → t.head k = s.head k ∧ t.valve k = false) ∧
          ∀ j, s.valve k = true → (s.head k).jar = some j →
            (s.rcs.jarField j .flushTime = 0 →
              t.head k = { s.head k with jar := some { j with
                flushAccrued := if j.flushAccrued < 400 then j.flushAccrued + 1 else 400 } } ∧ t.valve k = true) ∧
            (s.rcs.jarField j .flushTime ≠ 0 → j.flushAccrued + 1 = s.rcs.jarField j .flushTime →
              t.head k = { s.head k with
                state := .flushed
                jar := some { j with flushAccrued := j.flushAccrued + 1, flushResult := .full } } ∧
              t.valve k = false) ∧
            (s.rcs.jarField j .flushTime ≠ 0 → j.flushAccrued + 1 ≠ s.rcs.jarField j .flushTime →
              t.head k = { s.head k with jar := some { j with flushAccrued := j.flushAccrued + 1 } } ∧
              t.valve k = true))

/-! ### Head bus -/

/-- HEAD_BUS_SYNC_SLOT opens the next cycle once the last head slot has ended, and changes nothing else; HEAD_SLOT_START,
once the slot before has ended, makes the first row of R70 that applies the command in force of its head. -/
def Obligations.SlotStartChoosesCommand : Prop :=
  (∀ s : State, CycleOver s → exec .headBusSyncSlot s =
    .next (s.setSpu { s.spu with position := 0, slotEnded := false })) ∧
  ∀ (k : Fin 12) (s : State), NextSlot s k → ∃ t, exec (.headSlotStart k) s = .next t ∧
    t = (s.setSpu { s.spu with position := k.val + 1, slotEnded := false }).setSpindle k (t.spindle k) ∧
    t.spindle k = { s.spindle k with command := (t.spindle k).command } ∧
    ((s.spindle k).releaseHold ≠ .free → (t.spindle k).command = .release) ∧
    ((s.spindle k).releaseHold = .free →
      (∀ j, (s.head k).state = .torquing → (s.head k).jar = some j →
        (t.spindle k).command = .run (s.rcs.jarField j .torqueCeiling)) ∧
      (∀ j, (s.head k).state = .settled → (s.head k).jar = some j → j.closure = .seated →
        (t.spindle k).command = .hold) ∧
      ((s.head k).state ≠ .torquing →
        (∀ j, (s.head k).state = .settled → (s.head k).jar = some j → j.closure ≠ .seated) →
        (t.spindle k).command = .idle))

/-- A valid OK reply in a RUN slot of a TORQUING head is judged by the rows of R74 in their order; the reply that brings
the run to seat_count seats the jar (R75). That run and sum count on beyond the bounds of R68 under a seat_count of 0, which
lies outside its range, is the model's (notes/assumptions/23.md). -/
def Obligations.OkReplyJudged : Prop :=
  ∀ (k : Fin 12) (r : Reply) (limit : Nat) (j : Jar) (s : State), InSlot s k → Valid k r →
    r.status = .ok → (s.spindle k).command = .run limit → (s.head k).state = .torquing → (s.head k).jar = some j →
    ∃ t, exec (.headBusSlotArrival k (some r)) s = .next t ∧
      (let torque := r.torque.toNat
       let angle := r.angle.toNat
       let sp := { s.spindle k with misses := 0, lastTorque := torque, lastAngle := angle }
       let j1 := { j with maxTorque := if j.maxTorque < torque then torque else j.maxTorque }
       let settled (c : Closure) (seat : Nat) : Head := { s.head k with
         state := .settled
         jar := some { j1 with closure := c, finalAngle := angle, seatTorque := seat } }
       if s.rcs.jarField j .torqueCeiling < torque then
         t = ((arrived s).setSpindle k sp).setHead k (settled .overTorque j.seatTorque)
       else if s.rcs.jarField j .angleLimit < angle then
         t = ((arrived s).setSpindle k sp).setHead k (settled .crossThread j.seatTorque)
       else if s.rcs.jarField j .torqueTarget ≤ torque then
         if (s.spindle k).run + 1 = s.rcs.jarField j .seatCount then
           t = ((arrived s).setSpindle k { sp with run := (s.spindle k).run + 1, sum := (s.spindle k).sum + torque }).setHead k
             (settled .seated (((s.spindle k).sum + torque) / s.rcs.jarField j .seatCount))
         else
           t = ((arrived s).setSpindle k { sp with run := (s.spindle k).run + 1, sum := (s.spindle k).sum + torque }).setHead k
             { s.head k with jar := some j1 }
       else t = ((arrived s).setSpindle k { sp with run := 0, sum := 0 }).setHead k { s.head k with jar := some j1 })

/-- A valid OK reply in any other slot or state is not judged: the consecutive-miss count becomes 0 and the last torque the
reply's (R73). -/
def Obligations.OkReplyNotJudged : Prop :=
  ∀ (k : Fin 12) (r : Reply) (s : State), InSlot s k → Valid k r → r.status = .ok →
    (s.head k).state ≠ .torquing ∨ (∀ limit, (s.spindle k).command ≠ .run limit) →
    exec (.headBusSlotArrival k (some r)) s =
      .next ((arrived s).setSpindle k { s.spindle k with misses := 0, lastTorque := r.torque.toNat })

/-- A valid FAULT reply raises HEAD_DRIVE_FAULT, makes the miss count 0 and takes the head out of service (R50, R65, R79,
R81). -/
def Obligations.FaultReplyTakesHeadOut : Prop :=
  ∀ (k : Fin 12) (r : Reply) (s : State), InSlot s k → Valid k r → r.status = .fault →
    exec (.headBusSlotArrival k (some r)) s =
      .next (((((arrived s).setFlt (s.flt.raise ⟨.headDriveFault, s.ptk.p, BitVec.ofNat 8 k.val⟩)).setHead k
        (outReported (s.spindle k).lastAngle (s.head k))).setValve k false).setSpindle k
        { s.spindle k with misses := 0, releaseHold := .toLoad })

/-- A missed sample counts in RUN and HOLD slots against the head and its jar, and the third in a row raises
HEAD_LINK_LOST and takes the head out of service; in IDLE and RELEASE slots nothing changes but that the slot has ended (R77,
R78). -/
def Obligations.MissedSampleCounts : Prop :=
  ∀ (k : Fin 12) (s : State), InSlot s k → (s.spindle k).misses ≤ 3 →
    ∃ t, exec (.headBusSlotArrival k none) s = .next t ∧
      ((s.spindle k).command = .idle ∨ (s.spindle k).command = .release → t = arrived s) ∧
      ((s.spindle k).command = .hold ∨ (∃ limit, (s.spindle k).command = .run limit) →
        (let h : Head := { s.head k with jar := (s.head k).jar.map (fun j =>
            { j with missed := if j.missed < 65535 then j.missed + 1 else 65535 }) }
         if (s.spindle k).misses < 2 then
           t = ((arrived s).setSpindle k { s.spindle k with misses := (s.spindle k).misses + 1 }).setHead k h
         else
           t = ((((arrived s).setFlt (s.flt.raise ⟨.headLinkLost, s.ptk.p, BitVec.ofNat 8 k.val⟩)).setHead k
             (outReported (s.spindle k).lastAngle h)).setValve k false).setSpindle k
             { s.spindle k with misses := 3, releaseHold := .toLoad }))

/-- A reply that names another head or fails its check is a missed sample (R72). A command of the head bus that comes out of
turn changes nothing: the arrival of a slot that a reset abandoned (R86), and, as the model takes it, every sync slot, slot
start or arrival that the cycle does not give next (R69; notes/assumptions/4.md). -/
def Obligations.UnusableReplyIsMissed : Prop :=
  (∀ (k : Fin 12) (r : Reply) (s : State), ¬Valid k r →
    exec (.headBusSlotArrival k (some r)) s = exec (.headBusSlotArrival k none) s) ∧
  (∀ (k : Fin 12) (r : Option Reply) (s : State), ¬InSlot s k → exec (.headBusSlotArrival k r) s = .next s) ∧
  (∀ (k : Fin 12) (s : State), s.spu.position ≤ 12 → ¬NextSlot s k → exec (.headSlotStart k) s = .next s) ∧
  ∀ s : State, s.spu.position ≤ 12 → ¬CycleOver s → exec .headBusSyncSlot s = .next s

/-! ### Seal check and disposition -/

/-- JAR_EYE_EDGE opens a new window whatever the state of the one before, with the settle count as it stands (R112). -/
def Obligations.JarEyeEdgeOpensWindow : Prop :=
  ∀ s : State, exec .jarEyeEdge s = .next (s.setScu { s.scu with
    window := if s.configWord .settleCount = 0 then .collecting [] 0
      else .settling (s.configWord .settleCount).toNat 0 })

/-- A sample is clamped to −500..2500 and written into the ring at the write index, which moves on (R110); the window then
takes the clamped sample by its state, and while it is not completed nothing but the Seal Check Unit changes (R113). -/
def Obligations.SampleTaken : Prop :=
  ∀ (x : BitVec 13) (s : State), s.scu.writeIndex < 64 →
    ∃ t, exec (.sensorSampleArrival x) s = .next t ∧
      (∀ i : Fin 64, t.scu.ring[i.val] =
        if i.val = s.scu.writeIndex then
          (if x.toInt < -500 then -500 else if 2500 < x.toInt then 2500 else x.toInt)
        else s.scu.ring[i.val]) ∧
      t.scu.writeIndex = (if s.scu.writeIndex = 63 then 0 else s.scu.writeIndex + 1) ∧
      (s.scu.window = .closed → t.scu.window = .closed ∧ t = s.setScu t.scu) ∧
      (∀ settle skipped, s.scu.window = .settling settle skipped →
        t.scu.window = (if skipped + 1 = settle then .collecting [] 0 else .settling settle (skipped + 1)) ∧
        t = s.setScu t.scu) ∧
      (∀ samples n, s.scu.window = .collecting samples n → samples.length < 7 →
        t.scu.window = .collecting (samples ++ [clampSample x.toInt])
          (if x.toInt < -500 ∨ 2500 < x.toInt then n + 1 else n) ∧
        t = s.setScu t.scu) ∧
      (∀ samples n, s.scu.window = .collecting samples n → samples.length = 7 → t.scu.window = .closed)

/-- A completed measurement that finds the Outfeed Line empty, or its oldest entry not yet due, is discarded with
SENSOR_UNMATCHED; clamped samples have raised SENSOR_SATURATED before (R114, R115). -/
def Obligations.MeasurementUnmatched : Prop :=
  ∀ (x : BitVec 13) (s : State) (samples : List Int) (n : Nat), s.scu.window = .collecting samples n →
    samples.length = 7 →
    (let clamped := if x.toInt < -500 ∨ 2500 < x.toInt then n + 1 else n
     let flt := if 1 ≤ clamped then s.flt.raise ⟨.sensorSaturated, s.ptk.p, BitVec.ofNat 8 clamped⟩ else s.flt
     (s.ofl = [] → ∃ t, exec (.sensorSampleArrival x) s = .next t ∧
       t = (s.setScu t.scu).setFlt (flt.raise ⟨.sensorUnmatched, s.ptk.p, 0⟩)) ∧
     ∀ e rest, s.ofl = e :: rest → ahead e.duePitch (s.ptk.p + 1) = true →
       ∃ t, exec (.sensorSampleArrival x) s = .next t ∧
         t = (s.setScu t.scu).setFlt (flt.raise ⟨.sensorUnmatched, s.ptk.p, lowByte e.duePitch⟩))

/-- A completed measurement is matched to the oldest entry when that is due: clamped samples raise SENSOR_SATURATED (R114),
the entry leaves (R115), and its jar is passed on with the trimmed mean (R109, R124 to R132). -/
def Obligations.MeasurementMatched : Prop :=
  ∀ (x : BitVec 13) (s : State) (samples : List Int) (n : Nat) (e : OutfeedEntry) (rest : List OutfeedEntry),
    s.scu.window = .collecting samples n → samples.length = 7 → s.ofl = e :: rest →
    ahead e.duePitch (s.ptk.p + 1) = false → PortServed s → RecordsShort s → TalliesBounded s →
    (let clamped := if x.toInt < -500 ∨ 2500 < x.toInt then n + 1 else n
     ∃ t, exec (.sensorSampleArrival x) s = .next t ∧
      PassedOn (((s.setScu t.scu).setOfl rest).setFlt
        (if 1 ≤ clamped then s.flt.raise ⟨.sensorSaturated, s.ptk.p, BitVec.ofNat 8 clamped⟩ else s.flt))
        t e.jar (some (trimmedMean (samples ++ [clampSample x.toInt]))))

/-- The expected deflection in the four steps of R118, its divisions as bounds and its ranges. -/
def Obligations.ExpectedDeflectionSteps : Prop :=
  ∀ (T F Ft B S Tr : Nat), B ≤ 1000 → S ≤ 63 → (Ft = 0 ∨ 20 ≤ Ft ∧ Ft ≤ 400) →
    ∃ dT E0 q w : Nat,
      (dT : Int) = max 0 (min 400 ((T : Int) - Tr)) ∧
      (10 * (E0 - B) ≤ S * dT ∧ S * dT < 10 * (E0 - B) + 10 ∧ B ≤ E0 ∧ E0 ≤ 3520) ∧
      (Ft = 0 → q = if F = 0 then 0 else 256) ∧
      (Ft ≠ 0 → q * Ft ≤ min F Ft * 256 ∧ min F Ft * 256 < (q + 1) * Ft) ∧ q ≤ 256 ∧
      (256 * w ≤ E0 * (128 + q / 2) ∧ E0 * (128 + q / 2) < 256 * (w + 1)) ∧
      expectedDeflection T F Ft B S Tr = (if 2000 < w then 2000 else w)

/-- The trimmed mean: one largest and one smallest sample removed, the sum of the six left plus 3 divided by 6 rounding
toward minus infinity, within −500..2500, in whatever order the samples came (R119). -/
def Obligations.TrimmedMeanOfSix : Prop :=
  ∀ samples : List Int, samples.length = 8 → (∀ v ∈ samples, -500 ≤ v ∧ v ≤ 2500) →
    ∃ hi ∈ samples, ∃ lo ∈ samples, (∀ v ∈ samples, lo ≤ v ∧ v ≤ hi) ∧
      6 * trimmedMean samples ≤ samples.sum - hi - lo + 3 ∧
      samples.sum - hi - lo + 3 < 6 * trimmedMean samples + 6 ∧
      -3000 ≤ samples.sum - hi - lo ∧ samples.sum - hi - lo ≤ 15000 ∧
      -500 ≤ trimmedMean samples ∧ trimmedMean samples ≤ 2500 ∧
      ∀ other : List Int, other.Perm samples → trimmedMean other = trimmedMean samples

/-- The seal verdict: NONE without a usable recipe, NO_MEASUREMENT without a measurement, else the first test of R121 that
holds, with the weak threshold of R120. -/
def Obligations.SealVerdictRows : Prop :=
  ∀ (s : State) (j : Jar) (m : Option Int),
    (j.usable = false → verdictOf s.rcs j m = .noVerdict) ∧
    (j.usable = true → m = none → verdictOf s.rcs j m = .noMeasurement) ∧
    ∀ M : Int, j.usable = true → m = some M →
      (let E := expectedDeflection (j.effectiveTemp.getD 0) j.flushAccrued (s.rcs.jarField j .flushTime)
        (s.rcs.jarField j .baseDeflection) (s.rcs.jarField j .slope) (s.rcs.jarField j .referenceTemp)
       ∃ Tw : Nat, 16 * Tw ≤ E * s.rcs.jarField j .weakRatio ∧ E * s.rcs.jarField j .weakRatio < 16 * Tw + 16 ∧
        (verdictOf s.rcs j m = .leak ↔ M < s.rcs.jarField j .leakFloor) ∧
        (verdictOf s.rcs j m = .weak ↔ ¬M < s.rcs.jarField j .leakFloor ∧ M < Tw) ∧
        (verdictOf s.rcs j m = .overdrawn ↔ ¬M < s.rcs.jarField j .leakFloor ∧ ¬M < Tw ∧
          (E : Int) + s.rcs.jarField j .overdrawMargin < M) ∧
        (verdictOf s.rcs j m = .sealed ↔ ¬M < s.rcs.jarField j .leakFloor ∧ ¬M < Tw ∧
          ¬(E : Int) + s.rcs.jarField j .overdrawMargin < M))

/-- The reject cause found is the lowest-numbered row of R125 that applies, and none is found only when none applies. -/
def Obligations.RejectCauseOrder : Prop :=
  ∀ (inbound : Byte) (c : Closure) (v : SealVerdict),
    (let applies : RejectCause → Prop := fun x => match x with
      | .upstream => inbound = 2
      | .untracked => c = .untracked
      | .noRecipe => c = .noRecipe
      | .headLost => c = .headLost
      | .notCapped => c = .notCapped
      | .overTorque => c = .overTorque
      | .crossThread => c = .crossThread
      | .underTorque => c = .underTorque
      | .noMeasurement => v = .noMeasurement
      | .leak => v = .leak
      | .weak => v = .weak
      | .overdrawn => v = .overdrawn
     (∀ x, rejectCause inbound c v = some x ↔ applies x ∧ ∀ y, y.code < x.code → ¬applies y) ∧
     (rejectCause inbound c v = none ↔ ∀ y, ¬applies y))

/-- The audit register's step; from a non-zero value it never gives 0, and from 1 it runs through all 1023 non-zero values
before it repeats, of which exponent k selects 2^(10 − k) − 1 (R126, R127). -/
def Obligations.AuditRegisterPeriod : Prop :=
  (∀ r : BitVec 10, (auditStep r).toNat =
    2 * r.toNat % 1024 + (if r.toNat / 512 % 2 = r.toNat / 64 % 2 then 0 else 1)) ∧
  (∀ r : BitVec 10, r ≠ 0 → auditStep r ≠ 0) ∧
  (∀ r : BitVec 10, r ≠ 0 → ∃ n, n < 1023 ∧ Nat.iterate auditStep n 1 = r) ∧ Nat.iterate auditStep 1023 1 = 1 ∧
  ∀ k, 1 ≤ k → k ≤ 8 →
    ((List.range 1023).countP (fun n => auditSelects (Nat.iterate auditStep (n + 1) 1) k)) = 2 ^ (10 - k) - 1

/-! ### Requests -/

/-- STATUS answers OK with the 33 data bytes of R151 and R165 and changes nothing but the Link Interface. -/
def Obligations.StatusAnswers : Prop :=
  ∀ (tag : Byte) (s : State), PortServed s → ∃ t, exec (.status tag) s = .next t ∧ t = s.setLif t.lif ∧
    Answered s 1 tag 0
      ([if s.ptk.sync = .synced then 1#8 else 0#8, if s.ptk.motion = .moving then 1#8 else 0#8] ++
        wordBytes (BitVec.ofNat 16 s.ptk.speed) ++ wordBytes s.ptk.p ++
        [BitVec.ofNat 8 s.ptk.lead,
          if s.rcs.live = .a then 0#8 else if s.rcs.retiring then 2#8 else 1#8,
          if s.rcs.live = .b then 0#8 else if s.rcs.retiring then 2#8 else 1#8,
          BitVec.ofNat 8 s.rcs.a.inFlight, BitVec.ofNat 8 s.rcs.b.inFlight] ++ wordBytes s.rcs.signature ++
        [BitVec.ofNat 8 (s.flt.list.length + s.flt.overflow.length)] ++
        (match s.flt.list with
          | [] => [0#8, 0#8, 0#8, 0#8]
          | e :: _ => BitVec.ofNat 8 e.code.code :: wordBytes e.pitch ++ [e.detail]) ++
        [BitVec.ofNat 8 s.ifq.length, BitVec.ofNat 8 s.ofl.length, BitVec.ofNat 8 s.lif.transmitQueue.length] ++
        allHeads.map (fun k => BitVec.ofNat 8 ((s.head k).state.code +
          16 * (if (s.head k).service = .inService then 0 else 1)))) t.lif

/-- FAULTS answers OK with the list in its order, four bytes an entry, and the overflow codes in increasing order, and
changes nothing but the Link Interface (R152, R165). -/
def Obligations.FaultsAnswers : Prop :=
  ∀ (tag : Byte) (s : State), PortServed s → OverflowSorted s →
    ∃ (t : State) (codes : List Nat), exec (.faults tag) s = .next t ∧ t = s.setLif t.lif ∧
      codes.Pairwise (fun (a b : Nat) => a < b) ∧ (∀ n, n ∈ codes ↔ ∃ e ∈ s.flt.overflow, e.code.code = n) ∧
      Answered s 2 tag 0
        ([BitVec.ofNat 8 s.flt.list.length] ++
          s.flt.list.flatMap (fun e => [BitVec.ofNat 8 e.code.code, highByte e.pitch, lowByte e.pitch, e.detail]) ++
          [BitVec.ofNat 8 s.flt.overflow.length] ++ codes.map (fun n => BitVec.ofNat 8 n)) t.lif

/-- CLEAR_FAULT of an active code removes its entry; the freed list place is taken by the overflow entry of the lowest code;
code 0 empties both; a code above 16 is refused BAD_ARG (R149, R152, R162). -/
def Obligations.ClearFaultRemoves : Prop :=
  ∀ (tag : Byte) (s : State), PortServed s → FaultListBounded s → OverflowSorted s →
    (∃ t, exec (.clearFault tag 0) s = .next t ∧ t = (s.setFlt ⟨[], []⟩).setLif t.lif ∧
      Answered s 3 tag 0 [0] t.lif) ∧
    (∀ c : FaultCode, ∃ t, exec (.clearFault tag (BitVec.ofNat 8 c.code)) s = .next t ∧
      t = (s.setFlt t.flt).setLif t.lif ∧ Answered s 3 tag 0 [BitVec.ofNat 8 t.flt.count] t.lif ∧
      (s.flt.active c = false → t.flt = s.flt) ∧
      (c ∈ s.flt.overflow.map (fun e => e.code) →
        t.flt = ⟨s.flt.list, s.flt.overflow.filter (fun e => e.code ≠ c)⟩) ∧
      (c ∈ s.flt.list.map (fun e => e.code) →
        (s.flt.overflow = [] → t.flt = ⟨s.flt.list.filter (fun e => e.code ≠ c), []⟩) ∧
        ∀ e ∈ s.flt.overflow, (∀ e' ∈ s.flt.overflow, e.code.code ≤ e'.code.code) →
          t.flt = ⟨s.flt.list.filter (fun x => x.code ≠ c) ++ [e],
            s.flt.overflow.filter (fun x => x.code ≠ e.code)⟩)) ∧
    ∀ code : Byte, 16 < code.toNat → ∃ t, exec (.clearFault tag code) s = .next t ∧ t = s.setLif t.lif ∧
      Answered s 3 tag 4 [] t.lif

/-- CURSOR sets the named cursor with the index held to the table's last, and refuses a cursor above 1 with BAD_ARG and a
table outside 1..8 with BAD_TABLE (R149, R154). -/
def Obligations.CursorSets : Prop :=
  ∀ (tag which table : Byte) (index : Word) (s : State), PortServed s →
    ∃ t, exec (.cursor tag which table index) s = .next t ∧
      (1 < which.toNat → t = s.setLif t.lif ∧ Answered s 4 tag 4 [] t.lif) ∧
      (which.toNat ≤ 1 → (table.toNat = 0 ∨ 8 < table.toNat) → t = s.setLif t.lif ∧ Answered s 4 tag 3 [] t.lif) ∧
      ∀ (tbl : Table) (last : Nat), which.toNat ≤ 1 →
        (tbl, table.toNat, last) ∈ [(Table.live, 1, 159), (.spare, 2, 159), (.retiring, 3, 159), (.lead, 4, 15),
          (.config, 5, 6), (.tallies, 6, 29), (.sampleRing, 7, 64), (.heads, 8, 239)] →
        (let i := if last < index.toNat then last else index.toNat
         t = (s.setRcs (if which = 0 then { s.rcs with readCursor := ⟨tbl, i⟩ }
            else { s.rcs with writeCursor := ⟨tbl, i⟩ })).setLif t.lif ∧
          Answered s 4 tag 0 (table :: wordBytes (BitVec.ofNat 16 i)) t.lif)

/-- A WRITE into the SPARE bank stores its words from the cursor on, each held to the range of its own field, moves the
cursor by the count stored, and recomputes the signature (R88, R94, R95). -/
def Obligations.WriteIntoSpare : Prop :=
  ∀ (tag count : Byte) (words : List Word) (i : Nat) (s : State), PortServed s → words.length = count.toNat →
    1 ≤ count.toNat → count.toNat ≤ 20 → s.rcs.writeCursor = ⟨.spare, i⟩ → i ≤ 160 → s.rcs.retiring = false →
    ∃ t, exec (.write tag count words) s = .next t ∧ t = (s.setRcs t.rcs).setLif t.lif ∧
      Stored storedInBank words i (s.rcs.bank s.rcs.live.other).words (t.rcs.bank s.rcs.live.other).words ∧
      t.rcs.signature = bankSignature (t.rcs.bank s.rcs.live.other).words ∧
      t.rcs.writeCursor = ⟨.spare, i + min count.toNat (160 - i)⟩ ∧ t.rcs.readCursor = s.rcs.readCursor ∧
      t.rcs.live = s.rcs.live ∧ t.rcs.retiring = false ∧ t.rcs.bank s.rcs.live = s.rcs.bank s.rcs.live ∧
      (t.rcs.bank s.rcs.live.other).inFlight = (s.rcs.bank s.rcs.live.other).inFlight ∧
      Answered s 5 tag 0 [BitVec.ofNat 8 (min count.toNat (160 - i))] t.lif

/-- A WRITE into LEAD or CONFIG stores its words from the cursor on, each held to its range, words beyond the table's end not
stored (R7, R155, R156). -/
def Obligations.WriteIntoLeadAndConfig : Prop :=
  ∀ (tag count : Byte) (words : List Word) (i : Nat) (s : State), PortServed s → words.length = count.toNat →
    1 ≤ count.toNat → count.toNat ≤ 20 →
    (s.rcs.writeCursor = ⟨.lead, i⟩ → i ≤ 16 →
      ∃ t, exec (.write tag count words) s = .next t ∧
        t = ((s.setPtk { s.ptk with leadTable := t.ptk.leadTable }).setRcs { s.rcs with
          writeCursor := ⟨.lead, i + min count.toNat (16 - i)⟩ }).setLif t.lif ∧
        Stored storedInLead words i s.ptk.leadTable t.ptk.leadTable ∧
        Answered s 5 tag 0 [BitVec.ofNat 8 (min count.toNat (16 - i))] t.lif) ∧
    (s.rcs.writeCursor = ⟨.config, i⟩ → i ≤ 7 →
      ∃ t, exec (.write tag count words) s = .next t ∧
        t = ((s.setCfg t.cfg).setRcs { s.rcs with
          writeCursor := ⟨.config, i + min count.toNat (7 - i)⟩ }).setLif t.lif ∧
        Stored storedInConfig words i s.cfg t.cfg ∧
        Answered (s.setCfg t.cfg) 5 tag 0 [BitVec.ofNat 8 (min count.toNat (7 - i))] t.lif)

/-- A READ answers the words of the cursor's table from its index on, at most to the table's end, and moves the read cursor
by their count; it changes nothing else (R52, R96, R111, R132, R155). -/
def Obligations.ReadTransfers : Prop :=
  ∀ (tag count : Byte) (tbl : Table) (i : Nat) (s : State), PortServed s → 1 ≤ count.toNat → count.toNat ≤ 20 →
    s.rcs.readCursor = ⟨tbl, i⟩ → i ≤ (tableContents s tbl).length →
    (tbl = .spare → s.rcs.retiring = false) → (tbl = .retiring → s.rcs.retiring = true) →
    ∃ t, exec (.read tag count) s = .next t ∧
      (let words := ((tableContents s tbl).drop i).take count.toNat
       t = (s.setRcs { s.rcs with readCursor := ⟨tbl, i + words.length⟩ }).setLif t.lif ∧
        Answered s 6 tag 0 (BitVec.ofNat 8 words.length :: words.flatMap wordBytes) t.lif)

/-- The READs and WRITEs that are refused: a length that differs from the count, a count outside 1..20, then the table's own
condition; nothing is stored or moved (R95, R96, R149, R153). -/
def Obligations.TransfersRefused : Prop :=
  ∀ (tag count : Byte) (words : List Word) (s : State), PortServed s →
    (∃ t, exec (.write tag count words) s = .next t ∧
      (words.length ≠ count.toNat → t = s.setLif t.lif ∧ Answered s 5 tag 8 [] t.lif) ∧
      (words.length = count.toNat → (count.toNat = 0 ∨ 20 < count.toNat) →
        t = s.setLif t.lif ∧ Answered s 5 tag 4 [] t.lif) ∧
      (words.length = count.toNat → 1 ≤ count.toNat → count.toNat ≤ 20 →
        (s.rcs.writeCursor.table ∈ [Table.live, .retiring, .tallies, .sampleRing, .heads] →
          t = s.setLif t.lif ∧ Answered s 5 tag 3 [] t.lif) ∧
        (s.rcs.writeCursor.table = .spare → s.rcs.retiring = true →
          t = s.setLif t.lif ∧ Answered s 5 tag 2 [] t.lif))) ∧
    ∃ t, exec (.read tag count) s = .next t ∧
      ((count.toNat = 0 ∨ 20 < count.toNat) → t = s.setLif t.lif ∧ Answered s 6 tag 4 [] t.lif) ∧
      (1 ≤ count.toNat → count.toNat ≤ 20 →
        (s.rcs.readCursor.table = .spare → s.rcs.retiring = true →
          t = s.setLif t.lif ∧ Answered s 6 tag 2 [] t.lif) ∧
        (s.rcs.readCursor.table = .retiring → s.rcs.retiring = false →
          t = s.setLif t.lif ∧ Answered s 6 tag 3 [] t.lif))

/-- COMMIT takes the checks of R98 in their order; accepted, it makes the SPARE bank LIVE and the former LIVE bank RETIRING
with jars in flight, else SPARE with a copy (R99). -/
def Obligations.CommitChecksAndSwaps : Prop :=
  ∀ (tag : Byte) (expected : Word) (s : State), PortServed s →
    ∃ t, exec (.commit tag expected) s = .next t ∧
      (let disordered (n : Nat) : Prop := n < 8 ∧ bankField (s.rcs.bank s.rcs.live.other).words n .valid = 1 ∧
        recipeInOrder (s.rcs.bank s.rcs.live.other).words n = false
       (s.rcs.retiring = true → t = s.setLif t.lif ∧ Answered s 7 tag 2 [] t.lif) ∧
       (s.rcs.retiring = false → expected ≠ s.rcs.signature → t = s.setLif t.lif ∧ Answered s 7 tag 5 [] t.lif) ∧
       (∀ n, s.rcs.retiring = false → expected = s.rcs.signature → disordered n → (∀ m, m < n → ¬disordered m) →
         t = s.setLif t.lif ∧ Answered s 7 tag 6 [BitVec.ofNat 8 n] t.lif) ∧
       (s.rcs.retiring = false → expected = s.rcs.signature → (∀ n, ¬disordered n) →
         t = (s.setRcs t.rcs).setLif t.lif ∧ Answered s 7 tag 1 [] t.lif ∧ t.rcs.live = s.rcs.live.other ∧
         t.rcs.bank s.rcs.live.other = s.rcs.bank s.rcs.live.other ∧
         (t.rcs.bank s.rcs.live).inFlight = (s.rcs.bank s.rcs.live).inFlight ∧
         t.rcs.readCursor = s.rcs.readCursor ∧ t.rcs.writeCursor = s.rcs.writeCursor ∧
         (1 ≤ (s.rcs.bank s.rcs.live).inFlight →
           t.rcs.retiring = true ∧ t.rcs.signature = 0 ∧ t.rcs.bank s.rcs.live = s.rcs.bank s.rcs.live) ∧
         ((s.rcs.bank s.rcs.live).inFlight = 0 →
           t.rcs.retiring = false ∧ (t.rcs.bank s.rcs.live).words = (s.rcs.bank s.rcs.live.other).words ∧
           t.rcs.signature = bankSignature (s.rcs.bank s.rcs.live.other).words)))

/-- HEAD_SERVICE sets the pending change of its head, or cancels it where the value equals the service, and changes no
other part of the context; a head above 11 or a value above 1 is refused BAD_ARG (R49, R149, R157). -/
def Obligations.HeadServicePends : Prop :=
  ∀ (tag : Byte) (s : State), PortServed s →
    (∀ (k : Fin 12) (v : Bool), ∃ t,
      exec (.headService tag (BitVec.ofNat 8 k.val) (if v then 1 else 0)) s = .next t ∧
      (let asked : Service := if v then .outOfService else .inService
       let h : Head := { s.head k with
         pendingService := if (s.head k).service = asked then none else some asked }
       t = (s.setHead k h).setLif t.lif ∧
        Answered s 8 tag 0
          [if h.service = .inService then 0 else 1,
            if h.pendingService = none then 0 else if v then 2 else 1] t.lif)) ∧
    ∀ head value : Byte, 11 < head.toNat ∨ 1 < value.toNat →
      ∃ t, exec (.headService tag head value) s = .next t ∧ t = s.setLif t.lif ∧ Answered s 8 tag 4 [] t.lif

/-- SEED_AUDIT sets the register to v modulo 1024, 0 as 1, and CLEAR_TALLIES sets every tally to 0; neither changes anything
else (R128, R133). -/
def Obligations.SeedAndClear : Prop :=
  ∀ (tag : Byte) (s : State), PortServed s →
    (∀ v : Word, ∃ t, exec (.seedAudit tag v) s = .next t ∧
      t = (s.setDsu { s.dsu with audit := t.dsu.audit }).setLif t.lif ∧
      t.dsu.audit.toNat = (if v.toNat % 1024 = 0 then 1 else v.toNat % 1024) ∧
      Answered s 9 tag 0 (wordBytes (BitVec.ofNat 16 t.dsu.audit.toNat)) t.lif) ∧
    ∃ t, exec (.clearTallies tag) s = .next t ∧
      t = (s.setDsu { s.dsu with tallies := t.dsu.tallies }).setLif t.lif ∧ (∀ i : Fin 15, t.dsu.tallies[i.val] = 0) ∧
      Answered s 10 tag 0 [] t.lif

/-- UNKNOWN_REQUEST: a payload with no code or no tag is answered LENGTH_ERROR, a code outside 1..11 UNKNOWN_REQUEST, and
nothing else changes (R149). -/
def Obligations.UnknownRequestAnswered : Prop :=
  ∀ (payload : List Byte) (s : State), PortServed s →
    (∀ code tag rest, payload = code :: tag :: rest → code.toNat = 0 ∨ 11 < code.toNat) →
    ∃ t, exec (.unknownRequest payload) s = .next t ∧ t = s.setLif t.lif ∧
      (payload = [] → Answered s 0 0 8 [] t.lif) ∧
      (∀ code, payload = [code] → Answered s code 0 8 [] t.lif) ∧
      ∀ code tag rest, payload = code :: tag :: rest → Answered s code tag 7 [] t.lif

/-- A REQ frame addressed to the station is carried out as the request its payload spells (R140, R149, R150, R165): each row
of the request table, and the payloads that spell none; a known code with arguments of another length is answered
LENGTH_ERROR. That the discard window has taken the frame before the request acts, so that RESET_STATION leaves it empty, is the
model's (notes/assumptions/14.md). -/
def Obligations.RequestFrameCarriesOut : Prop :=
  ∀ (source tag : Byte) (s : State), s.lif.receiver = .hunt →
    (let sent (payload : List Byte) := exec (arrival ⟨s.address, source, 3, payload⟩) s
     sent [1, tag] = exec (.status tag) (passed s) ∧
     sent [2, tag] = exec (.faults tag) (passed s) ∧
     (∀ code, sent [3, tag, code] = exec (.clearFault tag code) (passed s)) ∧
     (∀ which table i1 i0, sent [4, tag, which, table, i1, i0] = exec (.cursor tag which table (i1 ++ i0)) (passed s)) ∧
     (∀ (count : Byte) (words : List Word), words.length = count.toNat → words.length ≤ 22 →
       sent (5 :: tag :: count :: words.flatMap wordBytes) = exec (.write tag count words) (passed s)) ∧
     (∀ count, sent [6, tag, count] = exec (.read tag count) (passed s)) ∧
     (∀ s1 s0, sent [7, tag, s1, s0] = exec (.commit tag (s1 ++ s0)) (passed s)) ∧
     (∀ head value, sent [8, tag, head, value] = exec (.headService tag head value) (passed s)) ∧
     (∀ v1 v0, sent [9, tag, v1, v0] = exec (.seedAudit tag (v1 ++ v0)) (passed s)) ∧
     sent [10, tag] = exec (.clearTallies tag) (passed s) ∧
     sent [11, tag] = exec (.resetStation tag) (passed s) ∧
     (∀ payload, opensNoRequest payload = true → payload.length ≤ 48 →
       sent payload = exec (.unknownRequest payload) (passed s)) ∧
     ∀ (code : Byte) (arguments : List Byte), PortServed s → 1 ≤ code.toNat → code.toNat ≤ 11 →
       arguments.length ≤ 46 →
       (code ≠ 5 → arguments.length + 2 ≠ [2, 2, 3, 6, 0, 3, 4, 4, 4, 2, 2].getD (code.toNat - 1) 0) →
       (code = 5 → ∀ (n : Byte) (bytes : List Byte), arguments = n :: bytes → bytes.length ≠ 2 * n.toNat) →
       ∃ t, sent (code :: tag :: arguments) = .next t ∧ t = (passed s).setLif t.lif ∧
         Answered (passed s) code tag 8 [] t.lif)

/-! ### The Track Link -/

/-- A frame of up to 48 payload bytes, sent as the characters of R135 and R165, is received as that frame: it ends at its
last character and at no earlier one, passes the checks and is dispatched once from HUNT (R136, R138). That the discard window
takes the frame before the dispatch is the model's (notes/assumptions/14.md). -/
def Obligations.FrameRoundTrip : Prop :=
  ∀ f : Frame, f.payload.length ≤ 48 →
    (∀ n, n < (frameChars (sealFrame f)).length → examineChars ((frameChars (sealFrame f)).take n) = .more) ∧
    examineChars (frameChars (sealFrame f)) = .complete (sealFrame f) false ∧ frameCheckPasses (sealFrame f) = true ∧
    ∀ s : State, s.lif.receiver = .hunt → (toBeForwarded s.address f = true → s.lif.passFifo.length < 12) →
      exec (arrival f) s = .next (dispatch (sealFrame f) (passed s))

/-- A record of up to six annotations is read back whole from its payload, and a payload whose length is not 12 + 6·n is no
record (R14, R15, R165). -/
def Obligations.RecordRoundTrip : Prop :=
  (∀ r : JarRecord, r.annotations.length ≤ 6 →
    (recordBytes r).length = 12 + 6 * r.annotations.length ∧ parseRecord (recordBytes r) = some r) ∧
  ∀ payload : List Byte, (payload.length < 12 ∨ payload.length ≠ 12 + 6 * (payload.getD 9 0).toNat ∨
      6 < (payload.getD 9 0).toNat) → parseRecord payload = none

/-- CHARACTER_ARRIVAL at the receiver: the rows of R136, the idle character ignored in both states (R135), an abandoned frame
entered as a discard (R137, R139), and a frame that the character completes taken through the tests of R138 in their order and
then dispatched. That the discard window takes the frame before the dispatch is the model's (notes/assumptions/14.md). -/
def Obligations.ReceiverTakesCharacters : Prop :=
  ∀ (c : LinkChar) (s : State), LinkBounded s → ∃ t, exec (.characterArrival c) s = .next t ∧
    (charIdle c = true → t = s) ∧
    (charIdle c = false → s.lif.receiver = .hunt → charMark c = false → t = s) ∧
    (charIdle c = false → s.lif.receiver = .hunt → charMark c = true →
      t = s.setLif { s.lif with receiver := .collect [c] }) ∧
    (∀ cs, charIdle c = false → s.lif.receiver = .collect cs → charMark c = true →
      t = discarded 5 (.collect [c]) s) ∧
    (∀ cs, charIdle c = false → s.lif.receiver = .collect cs → charMark c = false → cs.length < 3 →
      t = s.setLif { s.lif with receiver := .collect (cs ++ [c]) }) ∧
    (∀ cs, charIdle c = false → s.lif.receiver = .collect cs → charMark c = false → cs.length = 3 →
      t = if 48 < (charData c).toNat then discarded 1 .hunt s
        else s.setLif { s.lif with receiver := .collect (cs ++ [c]) }) ∧
    (∀ (cs : List LinkChar) (h : 4 ≤ cs.length), charIdle c = false → s.lif.receiver = .collect cs →
      charMark c = false → cs.length + 1 < 6 + (charData cs[3]).toNat → (charData cs[3]).toNat ≤ 48 →
      t = s.setLif { s.lif with receiver := .collect (cs ++ [c]) }) ∧
    (∀ (cs : List LinkChar) (h : 4 ≤ cs.length), charIdle c = false → s.lif.receiver = .collect cs →
      charMark c = false → cs.length + 1 = 6 + (charData cs[3]).toNat → (charData cs[3]).toNat ≤ 48 →
      (let f := heard (cs ++ [c])
       t = if ∃ x ∈ cs ++ [c], charParityError x = true then discarded 2 .hunt s
         else if f.check ≠ crc16 (frameBytes f.frame) then discarded 3 .hunt s
         else if toBeForwarded s.address f.frame = true ∧ s.lif.passFifo.length = 12 then discarded 4 .hunt s
         else dispatch f (passed s)))

/-- The tests of R138 and their discards: over length, a parity error in any character but the length, a check sequence
that differs, and no room in the Pass FIFO for a frame to be forwarded; the eighth discard held raises LINK_NOISE with its
cause (R139). -/
def Obligations.FramesDiscarded : Prop :=
  ∀ s : State, LinkBounded s → s.lif.receiver = .hunt →
    (∀ (address source kind length : Byte), 48 < length.toNat →
      exec (.frameArrival [linkChar address true, linkChar source false, linkChar kind false, linkChar length false]) s =
        .next (discarded 1 .hunt s)) ∧
    (∀ (f : Frame) (i : Nat) (b : Nat) (c : LinkChar), f.payload.length ≤ 48 → i ≠ 3 → 1 ≤ b → b ≤ 10 → b ≠ 9 →
      (frameChars (sealFrame f))[i]? = some c → charIdle (c ^^^ (1#11 <<< b)) = false →
      exec (.frameArrival ((frameChars (sealFrame f)).set i (c ^^^ (1#11 <<< b)))) s = .next (discarded 2 .hunt s)) ∧
    (∀ f : SealedFrame, f.frame.payload.length ≤ 48 → f.check ≠ crc16 (frameBytes f.frame) →
      exec (.frameArrival (frameChars f)) s = .next (discarded 3 .hunt s)) ∧
    ∀ f : Frame, f.payload.length ≤ 48 → s.lif.passFifo.length = 12 → f.address ≠ s.address → f.source ≠ s.address →
      f.address.toNat ≤ 63 → exec (arrival f) s = .next (discarded 4 .hunt s)

/-- Dispatch by address, source and kind (R140) of the frames that no block takes: dropped, removed or forwarded, the
forwarded frame joining the Pass FIFO or leaving at once and the upstream HOLD following (R141, R142). -/
def Obligations.FramesForwardedOrDropped : Prop :=
  ∀ (f : Frame) (s : State), s.lif.receiver = .hunt → f.payload.length ≤ 48 → PortServed s →
    (f.address = s.address → f.kind ≠ 2 → f.kind ≠ 3 → exec (arrival f) s = .next (passed s)) ∧
    (f.address ≠ s.address → f.source = s.address → exec (arrival f) s = .next (passed s)) ∧
    (f.address ≠ s.address → f.source ≠ s.address → f.address.toNat ≤ 63 → (f.address = 0 → f.kind ≠ 1) →
      s.lif.passFifo.length < 12 →
      ∃ t, exec (arrival f) s = .next t ∧ t = s.setLif t.lif ∧ Forwarded (passed s) (sealFrame f) t.lif)

/-- A PITCH frame of 10 bytes to address 0 sets P in UNSYNCED, with the records then behind it purged and INFEED_STALE raised
with the low byte of the first of them in queue order, and in SYNCED corrects P with PITCH_SKEW outside the tolerance of one (R9 to R11, R25); it is forwarded as well. A PITCH frame of another
length leaves P, the sync state and the Fault List (R166). That the stamp sees the fault raised here is the model's
(notes/assumptions/9.md). -/
def Obligations.PitchFrameTracked : Prop :=
  ∀ (source : Byte) (payload : List Byte) (s : State), s.lif.receiver = .hunt → source ≠ s.address →
    s.address ≠ 0 → PortServed s → s.lif.passFifo.length < 12 → payload.length ≤ 48 →
    (let f : Frame := ⟨0, source, 1, payload⟩
     ∃ t, exec (arrival f) s = .next t ∧
      t = ((((s.setPtk t.ptk).setIfq t.ifq).setFlt t.flt).setLif t.lif) ∧
      Forwarded ((passed s).setFlt t.flt) (sealFrame f) t.lif ∧
      (payload.length ≠ 10 → t.ptk = s.ptk ∧ t.ifq = s.ifq ∧ t.flt = s.flt) ∧
      ∀ m1 m0 mask, payload = m1 :: m0 :: mask → payload.length = 10 →
        (let expected : Word := (m1 ++ m0) - s.configWord .pitchOffset
         let d : Int := (expected - s.ptk.p).toInt
         (s.ptk.sync = .unsynced →
           t.ptk = { s.ptk with p := expected, sync := .synced } ∧
           (∀ q, q ∈ t.ifq ↔ q ∈ s.ifq ∧ behind q.pitch expected = false) ∧
           ((∀ q ∈ s.ifq, behind q.pitch expected = false) → t.flt = s.flt) ∧
           ∀ q ∈ s.ifq, behind q.pitch expected = true →
             (∀ q' ∈ s.ifq, behind q'.pitch expected = true →
               recordOffset expected q ≤ recordOffset expected q') →
             t.flt = s.flt.raise ⟨.infeedStale, expected, lowByte q.pitch⟩) ∧
         (s.ptk.sync = .synced → -1 ≤ d → d ≤ 1 → t.ptk = s.ptk ∧ t.ifq = s.ifq ∧ t.flt = s.flt) ∧
         (s.ptk.sync = .synced → d < -1 ∨ 1 < d →
           t.ptk = { s.ptk with p := expected } ∧ t.ifq.Perm s.ifq ∧
           t.flt = s.flt.raise ⟨.pitchSkew, expected,
             BitVec.ofInt 8 (if d < -127 then -127 else if 127 < d then 127 else d)⟩)))

/-- A JAR frame of the station: the arrival tests of R19 in SYNCED, none in UNSYNCED (R22), the replacement of R20, the
insertion of R21 in offset order, and INFEED_OVERFLOW with 24 held; a malformed payload changes nothing (R15). The reserved
bits 1..7 of the flags byte, byte 8 of the payload, are ignored (R165). -/
def Obligations.JarFrameQueued : Prop :=
  ∀ (source : Byte) (s : State), s.lif.receiver = .hunt → QueueOrdered s →
    (∀ payload : List Byte, payload.length ≤ 48 → parseRecord payload = none →
      exec (arrival ⟨s.address, source, 2, payload⟩) s = .next (passed s)) ∧
    ∀ (r : JarRecord) (reserved : BitVec 7), r.annotations.length ≤ 6 →
      ∃ t, exec (arrival ⟨s.address, source, 2,
          (recordBytes r).set 8 (reserved ++ (if r.tempPresent then 1#1 else 0#1))⟩) s = .next t ∧
        (let o := (r.pitch - s.ptk.p).toNat
         let untested := s.ptk.sync = .unsynced ∨ (1 ≤ o ∧ o ≤ 64)
         (s.ptk.sync = .synced → o = 0 ∨ 32769 ≤ o →
           t = (passed s).setFlt (s.flt.raise ⟨.infeedStale, s.ptk.p, lowByte r.pitch⟩)) ∧
         (s.ptk.sync = .synced → 65 ≤ o → o ≤ 32768 →
           t = (passed s).setFlt (s.flt.raise ⟨.pitchSkew, s.ptk.p, if 127 < o then 127 else BitVec.ofNat 8 o⟩)) ∧
         (untested → (∃ q ∈ s.ifq, q.pitch = r.pitch) →
           t = (passed s).setIfq (s.ifq.map (fun q => if q.pitch = r.pitch then r else q))) ∧
         (untested → (∀ q ∈ s.ifq, q.pitch ≠ r.pitch) → s.ifq.length < 24 →
           ∃ before after, s.ifq = before ++ after ∧ t = (passed s).setIfq (before ++ r :: after) ∧
             (∀ q ∈ before, (q.pitch - s.ptk.p).toNat < o) ∧ ∀ q ∈ after, o < (q.pitch - s.ptk.p).toNat) ∧
         (untested → (∀ q ∈ s.ifq, q.pitch ≠ r.pitch) → s.ifq.length = 24 →
           t = (passed s).setFlt (s.flt.raise ⟨.infeedOverflow, s.ptk.p, lowByte r.pitch⟩)))

/-- TRANSMIT_COMPLETION makes the port idle and runs the arbiter; with the downstream HOLD asserted it chooses nothing.
DOWNSTREAM_HOLD_ASSERTED lets a frame in transmission go on and starts none; DOWNSTREAM_HOLD_RELEASED runs the arbiter on an
idle port (R143, R145). The frame chosen leaves as it stands, a PITCH frame stamped (R141, R146, R166). -/
def Obligations.DownstreamPortArbitrates : Prop :=
  (∀ s : State, s.lif.sending ≠ none → ∃ t, exec .transmitCompletion s = .next t ∧ t = s.setLif t.lif ∧
    (s.pins.downstreamHold = true → t.lif = { s.lif with sending := none }) ∧
    (s.pins.downstreamHold = false → Arbitrated s t.lif)) ∧
  (∀ s : State, exec .downstreamHoldAsserted s = .next (s.setPins { s.pins with downstreamHold := true })) ∧
  ∀ s : State, ∃ t, exec .downstreamHoldReleased s = .next t ∧
    t = (s.setPins { s.pins with downstreamHold := false }).setLif t.lif ∧
    (s.lif.sending ≠ none → t.lif = s.lif) ∧ (s.lif.sending = none → Arbitrated s t.lif)

/-! ### Faults -/

/-- The raising of a code (R161): nothing while it is active, the list tail with room, else the overflow set, and the bounds
of list and set kept; the halt request follows the STOP-class codes of R160 (R163). -/
def Obligations.FaultRaised : Prop :=
  ∀ (c : FaultCode) (detail : Byte) (s : State),
    (let t := s.raise c detail
     let e : FaultEntry := ⟨c, s.ptk.p, detail⟩
     t = s.setFlt t.flt ∧
     (s.flt.active c = true → t = s) ∧
     (s.flt.active c = false → s.flt.list.length < 8 → t.flt = ⟨s.flt.list ++ [e], s.flt.overflow⟩) ∧
     (s.flt.active c = false → 8 ≤ s.flt.list.length →
       t.flt.list = s.flt.list ∧ t.flt.overflow.Perm (e :: s.flt.overflow)) ∧
     (FaultListBounded s → FaultListBounded t ∧ t.flt.overflow.length ≤ 8) ∧
     t.flt.count = t.flt.list.length + t.flt.overflow.length ∧
     (t.flt.haltRequest = true ↔ s.flt.haltRequest = true ∨ c ∈ [FaultCode.linkBlocked, .infeedOverflow, .pitchSkew,
       .strayJar, .recipeUnusable, .capTypeMismatch, .steamLow, .headDriveFault, .headLinkLost, .rejectRun]))

/-! ### What every command keeps -/

/-- The fault list holds at most 8 entries with distinct codes, disjoint from the overflow set, which is non-empty only while
the list holds 8 (R161); the overflow set keeps its order. -/
def Obligations.FaultListKept : Prop :=
  ∀ (c : Instr) (s t : State), FaultListBounded s ∧ OverflowSorted s → exec c s = .next t →
    FaultListBounded t ∧ OverflowSorted t

/-- The Infeed Queue keeps at most 24 records in increasing order of offset, no two of one pitch, whatever moves P (R18). The
Outfeed Line, the Pass FIFO, the Transmit Queue and the discard window keep their bounds, and no frame waits on an idle port
with the downstream HOLD released (R106, R139, R141, R144, R145). -/
def Obligations.QueuesKept : Prop :=
  ∀ (c : Instr) (s t : State), exec c s = .next t →
    (QueueOrdered s → QueueOrdered t) ∧ (OutfeedBounded s → OutfeedBounded t) ∧
    (LinkBounded s ∧ PortServed s → LinkBounded t ∧ PortServed t)

/-- The turret count, the backlog, the timers and the speed keep their ranges (R1, R5, R6), the audit register is never 0
(R127), and the REJECT tally stays the sum of the twelve cause tallies while it has not saturated (R132). -/
def Obligations.CountersKept : Prop :=
  ∀ (c : Instr) (s t : State), exec c s = .next t →
    (TrackerInRange s → TrackerInRange t) ∧ (AuditNonzero s → AuditNonzero t) ∧ (TalliesBalance s → TalliesBalance t)

/-- Jars stand only on heads between infeed and exit, a context without a jar is EMPTY, and each bank's in-flight count is
the number of tracked jars tagged with it on the heads and in the Outfeed Line, a bank RETIRING exactly while it is not LIVE
and its count is above 0 (R32, R47, R91, R92). A bank with jars in flight before and after a command keeps every word, so a
tagged jar reads the same recipe from its load to its judgement (R35, R103). -/
def Obligations.JarsAccounted : Prop :=
  ∀ (c : Instr) (s t : State), JarsMatchStates s ∧ CountsMatchJars s ∧ JarsBeforeExit s → exec c s = .next t →
    (JarsMatchStates t ∧ CountsMatchJars t ∧ JarsBeforeExit t) ∧
    ∀ i : BankId, 1 ≤ (s.rcs.bank i).inFlight → 1 ≤ (t.rcs.bank i).inFlight →
      (t.rcs.bank i).words = (s.rcs.bank i).words

/-- A head's valve is OPEN exactly when the head is FLUSHING, the turret is MOVING and the flush is below its target (R56),
through every command: an advance, a tick, a stop, a report, a commit or a drain. A head is SETTLED exactly when its jar's
closure result is decided, so an out-of-service report of a FLUSHING head settles it (R50). -/
def Obligations.ValvesFollowConditions : Prop :=
  ∀ (c : Instr) (s t : State),
    ValvesFollow s ∧ JarsConsistent s ∧ JarsMatchStates s ∧ CountsMatchJars s ∧ JarsBeforeExit s →
    exec c s = .next t → ValvesFollow t ∧ JarsConsistent t

/-- The spare signature is that of the SPARE bank, 0 while a bank is RETIRING (R94), and every valid recipe of the LIVE and
of a RETIRING bank is in order (R89). -/
def Obligations.BanksKept : Prop :=
  ∀ (c : Instr) (s t : State), SignatureCurrent s ∧ CommittedInOrder s → exec c s = .next t →
    SignatureCurrent t ∧ CommittedInOrder t

/-- Every record held keeps at most six annotations, so that R130 removes at most one (R14, R15). The head bus stays within its
13 slots, and each head's miss count, last torque and last angle in their ranges (R68, R69). -/
def Obligations.RecordsAndHeadBusKept : Prop :=
  ∀ (c : Instr) (s t : State), exec c s = .next t →
    (RecordsShort s → RecordsShort t) ∧ (HeadBusInRange s → HeadBusInRange t)

/-- Every invariant of this file holds at the state after cold reset. -/
def Obligations.ResetMeetsInvariants : Prop :=
  FaultListBounded State.reset ∧ OverflowSorted State.reset ∧ LinkBounded State.reset ∧ PortServed State.reset ∧
  OutfeedBounded State.reset ∧ QueueOrdered State.reset ∧ TrackerInRange State.reset ∧ AuditNonzero State.reset ∧
  JarsMatchStates State.reset ∧ CountsMatchJars State.reset ∧ JarsBeforeExit State.reset ∧ ValvesFollow State.reset ∧
  JarsConsistent State.reset ∧ SignatureCurrent State.reset ∧ CommittedInOrder State.reset ∧
  TalliesBalance State.reset ∧ OpenValvesFlush State.reset ∧ RecordsShort State.reset ∧ HeadBusInRange State.reset
end

