-- ==== Sys2Proof/Laws/State.lean ====
section
/-! SUPPORT. One lemma per field per block update, so that no proof unfolds an update of State. -/

namespace Sys2Proof.Machine

@[simp] theorem State.setPtk_ptk (s : State) (v : Ptk) : (s.setPtk v).ptk = v := rfl
@[simp] theorem State.setPtk_cfg (s : State) (v : Ptk) : (s.setPtk v).cfg = s.cfg := rfl
@[simp] theorem State.setPtk_ifq (s : State) (v : Ptk) : (s.setPtk v).ifq = s.ifq := rfl
@[simp] theorem State.setPtk_heads (s : State) (v : Ptk) : (s.setPtk v).heads = s.heads := rfl
@[simp] theorem State.setPtk_valves (s : State) (v : Ptk) : (s.setPtk v).valves = s.valves := rfl
@[simp] theorem State.setPtk_spu (s : State) (v : Ptk) : (s.setPtk v).spu = s.spu := rfl
@[simp] theorem State.setPtk_rcs (s : State) (v : Ptk) : (s.setPtk v).rcs = s.rcs := rfl
@[simp] theorem State.setPtk_ofl (s : State) (v : Ptk) : (s.setPtk v).ofl = s.ofl := rfl
@[simp] theorem State.setPtk_scu (s : State) (v : Ptk) : (s.setPtk v).scu = s.scu := rfl
@[simp] theorem State.setPtk_dsu (s : State) (v : Ptk) : (s.setPtk v).dsu = s.dsu := rfl
@[simp] theorem State.setPtk_lif (s : State) (v : Ptk) : (s.setPtk v).lif = s.lif := rfl
@[simp] theorem State.setPtk_flt (s : State) (v : Ptk) : (s.setPtk v).flt = s.flt := rfl
@[simp] theorem State.setPtk_address (s : State) (v : Ptk) : (s.setPtk v).address = s.address := rfl
@[simp] theorem State.setPtk_pins (s : State) (v : Ptk) : (s.setPtk v).pins = s.pins := rfl
@[simp] theorem State.setPtk_pending (s : State) (v : Ptk) : (s.setPtk v).pending = s.pending := rfl
@[simp] theorem State.setCfg_ptk (s : State) (v : Vector Word 7) : (s.setCfg v).ptk = s.ptk := rfl
@[simp] theorem State.setCfg_cfg (s : State) (v : Vector Word 7) : (s.setCfg v).cfg = v := rfl
@[simp] theorem State.setCfg_ifq (s : State) (v : Vector Word 7) : (s.setCfg v).ifq = s.ifq := rfl
@[simp] theorem State.setCfg_heads (s : State) (v : Vector Word 7) : (s.setCfg v).heads = s.heads := rfl
@[simp] theorem State.setCfg_valves (s : State) (v : Vector Word 7) : (s.setCfg v).valves = s.valves := rfl
@[simp] theorem State.setCfg_spu (s : State) (v : Vector Word 7) : (s.setCfg v).spu = s.spu := rfl
@[simp] theorem State.setCfg_rcs (s : State) (v : Vector Word 7) : (s.setCfg v).rcs = s.rcs := rfl
@[simp] theorem State.setCfg_ofl (s : State) (v : Vector Word 7) : (s.setCfg v).ofl = s.ofl := rfl
@[simp] theorem State.setCfg_scu (s : State) (v : Vector Word 7) : (s.setCfg v).scu = s.scu := rfl
@[simp] theorem State.setCfg_dsu (s : State) (v : Vector Word 7) : (s.setCfg v).dsu = s.dsu := rfl
@[simp] theorem State.setCfg_lif (s : State) (v : Vector Word 7) : (s.setCfg v).lif = s.lif := rfl
@[simp] theorem State.setCfg_flt (s : State) (v : Vector Word 7) : (s.setCfg v).flt = s.flt := rfl
@[simp] theorem State.setCfg_address (s : State) (v : Vector Word 7) : (s.setCfg v).address = s.address := rfl
@[simp] theorem State.setCfg_pins (s : State) (v : Vector Word 7) : (s.setCfg v).pins = s.pins := rfl
@[simp] theorem State.setCfg_pending (s : State) (v : Vector Word 7) : (s.setCfg v).pending = s.pending := rfl
@[simp] theorem State.setIfq_ptk (s : State) (v : List JarRecord) : (s.setIfq v).ptk = s.ptk := rfl
@[simp] theorem State.setIfq_cfg (s : State) (v : List JarRecord) : (s.setIfq v).cfg = s.cfg := rfl
@[simp] theorem State.setIfq_ifq (s : State) (v : List JarRecord) : (s.setIfq v).ifq = v := rfl
@[simp] theorem State.setIfq_heads (s : State) (v : List JarRecord) : (s.setIfq v).heads = s.heads := rfl
@[simp] theorem State.setIfq_valves (s : State) (v : List JarRecord) : (s.setIfq v).valves = s.valves := rfl
@[simp] theorem State.setIfq_spu (s : State) (v : List JarRecord) : (s.setIfq v).spu = s.spu := rfl
@[simp] theorem State.setIfq_rcs (s : State) (v : List JarRecord) : (s.setIfq v).rcs = s.rcs := rfl
@[simp] theorem State.setIfq_ofl (s : State) (v : List JarRecord) : (s.setIfq v).ofl = s.ofl := rfl
@[simp] theorem State.setIfq_scu (s : State) (v : List JarRecord) : (s.setIfq v).scu = s.scu := rfl
@[simp] theorem State.setIfq_dsu (s : State) (v : List JarRecord) : (s.setIfq v).dsu = s.dsu := rfl
@[simp] theorem State.setIfq_lif (s : State) (v : List JarRecord) : (s.setIfq v).lif = s.lif := rfl
@[simp] theorem State.setIfq_flt (s : State) (v : List JarRecord) : (s.setIfq v).flt = s.flt := rfl
@[simp] theorem State.setIfq_address (s : State) (v : List JarRecord) : (s.setIfq v).address = s.address := rfl
@[simp] theorem State.setIfq_pins (s : State) (v : List JarRecord) : (s.setIfq v).pins = s.pins := rfl
@[simp] theorem State.setIfq_pending (s : State) (v : List JarRecord) : (s.setIfq v).pending = s.pending := rfl
@[simp] theorem State.setHeads_ptk (s : State) (v : Vector Head 12) : (s.setHeads v).ptk = s.ptk := rfl
@[simp] theorem State.setHeads_cfg (s : State) (v : Vector Head 12) : (s.setHeads v).cfg = s.cfg := rfl
@[simp] theorem State.setHeads_ifq (s : State) (v : Vector Head 12) : (s.setHeads v).ifq = s.ifq := rfl
@[simp] theorem State.setHeads_heads (s : State) (v : Vector Head 12) : (s.setHeads v).heads = v := rfl
@[simp] theorem State.setHeads_valves (s : State) (v : Vector Head 12) : (s.setHeads v).valves = s.valves := rfl
@[simp] theorem State.setHeads_spu (s : State) (v : Vector Head 12) : (s.setHeads v).spu = s.spu := rfl
@[simp] theorem State.setHeads_rcs (s : State) (v : Vector Head 12) : (s.setHeads v).rcs = s.rcs := rfl
@[simp] theorem State.setHeads_ofl (s : State) (v : Vector Head 12) : (s.setHeads v).ofl = s.ofl := rfl
@[simp] theorem State.setHeads_scu (s : State) (v : Vector Head 12) : (s.setHeads v).scu = s.scu := rfl
@[simp] theorem State.setHeads_dsu (s : State) (v : Vector Head 12) : (s.setHeads v).dsu = s.dsu := rfl
@[simp] theorem State.setHeads_lif (s : State) (v : Vector Head 12) : (s.setHeads v).lif = s.lif := rfl
@[simp] theorem State.setHeads_flt (s : State) (v : Vector Head 12) : (s.setHeads v).flt = s.flt := rfl
@[simp] theorem State.setHeads_address (s : State) (v : Vector Head 12) : (s.setHeads v).address = s.address := rfl
@[simp] theorem State.setHeads_pins (s : State) (v : Vector Head 12) : (s.setHeads v).pins = s.pins := rfl
@[simp] theorem State.setHeads_pending (s : State) (v : Vector Head 12) : (s.setHeads v).pending = s.pending := rfl
@[simp] theorem State.setValves_ptk (s : State) (v : Vector Bool 12) : (s.setValves v).ptk = s.ptk := rfl
@[simp] theorem State.setValves_cfg (s : State) (v : Vector Bool 12) : (s.setValves v).cfg = s.cfg := rfl
@[simp] theorem State.setValves_ifq (s : State) (v : Vector Bool 12) : (s.setValves v).ifq = s.ifq := rfl
@[simp] theorem State.setValves_heads (s : State) (v : Vector Bool 12) : (s.setValves v).heads = s.heads := rfl
@[simp] theorem State.setValves_valves (s : State) (v : Vector Bool 12) : (s.setValves v).valves = v := rfl
@[simp] theorem State.setValves_spu (s : State) (v : Vector Bool 12) : (s.setValves v).spu = s.spu := rfl
@[simp] theorem State.setValves_rcs (s : State) (v : Vector Bool 12) : (s.setValves v).rcs = s.rcs := rfl
@[simp] theorem State.setValves_ofl (s : State) (v : Vector Bool 12) : (s.setValves v).ofl = s.ofl := rfl
@[simp] theorem State.setValves_scu (s : State) (v : Vector Bool 12) : (s.setValves v).scu = s.scu := rfl
@[simp] theorem State.setValves_dsu (s : State) (v : Vector Bool 12) : (s.setValves v).dsu = s.dsu := rfl
@[simp] theorem State.setValves_lif (s : State) (v : Vector Bool 12) : (s.setValves v).lif = s.lif := rfl
@[simp] theorem State.setValves_flt (s : State) (v : Vector Bool 12) : (s.setValves v).flt = s.flt := rfl
@[simp] theorem State.setValves_address (s : State) (v : Vector Bool 12) : (s.setValves v).address = s.address := rfl
@[simp] theorem State.setValves_pins (s : State) (v : Vector Bool 12) : (s.setValves v).pins = s.pins := rfl
@[simp] theorem State.setValves_pending (s : State) (v : Vector Bool 12) : (s.setValves v).pending = s.pending := rfl
@[simp] theorem State.setSpu_ptk (s : State) (v : Spu) : (s.setSpu v).ptk = s.ptk := rfl
@[simp] theorem State.setSpu_cfg (s : State) (v : Spu) : (s.setSpu v).cfg = s.cfg := rfl
@[simp] theorem State.setSpu_ifq (s : State) (v : Spu) : (s.setSpu v).ifq = s.ifq := rfl
@[simp] theorem State.setSpu_heads (s : State) (v : Spu) : (s.setSpu v).heads = s.heads := rfl
@[simp] theorem State.setSpu_valves (s : State) (v : Spu) : (s.setSpu v).valves = s.valves := rfl
@[simp] theorem State.setSpu_spu (s : State) (v : Spu) : (s.setSpu v).spu = v := rfl
@[simp] theorem State.setSpu_rcs (s : State) (v : Spu) : (s.setSpu v).rcs = s.rcs := rfl
@[simp] theorem State.setSpu_ofl (s : State) (v : Spu) : (s.setSpu v).ofl = s.ofl := rfl
@[simp] theorem State.setSpu_scu (s : State) (v : Spu) : (s.setSpu v).scu = s.scu := rfl
@[simp] theorem State.setSpu_dsu (s : State) (v : Spu) : (s.setSpu v).dsu = s.dsu := rfl
@[simp] theorem State.setSpu_lif (s : State) (v : Spu) : (s.setSpu v).lif = s.lif := rfl
@[simp] theorem State.setSpu_flt (s : State) (v : Spu) : (s.setSpu v).flt = s.flt := rfl
@[simp] theorem State.setSpu_address (s : State) (v : Spu) : (s.setSpu v).address = s.address := rfl
@[simp] theorem State.setSpu_pins (s : State) (v : Spu) : (s.setSpu v).pins = s.pins := rfl
@[simp] theorem State.setSpu_pending (s : State) (v : Spu) : (s.setSpu v).pending = s.pending := rfl
@[simp] theorem State.setRcs_ptk (s : State) (v : Rcs) : (s.setRcs v).ptk = s.ptk := rfl
@[simp] theorem State.setRcs_cfg (s : State) (v : Rcs) : (s.setRcs v).cfg = s.cfg := rfl
@[simp] theorem State.setRcs_ifq (s : State) (v : Rcs) : (s.setRcs v).ifq = s.ifq := rfl
@[simp] theorem State.setRcs_heads (s : State) (v : Rcs) : (s.setRcs v).heads = s.heads := rfl
@[simp] theorem State.setRcs_valves (s : State) (v : Rcs) : (s.setRcs v).valves = s.valves := rfl
@[simp] theorem State.setRcs_spu (s : State) (v : Rcs) : (s.setRcs v).spu = s.spu := rfl
@[simp] theorem State.setRcs_rcs (s : State) (v : Rcs) : (s.setRcs v).rcs = v := rfl
@[simp] theorem State.setRcs_ofl (s : State) (v : Rcs) : (s.setRcs v).ofl = s.ofl := rfl
@[simp] theorem State.setRcs_scu (s : State) (v : Rcs) : (s.setRcs v).scu = s.scu := rfl
@[simp] theorem State.setRcs_dsu (s : State) (v : Rcs) : (s.setRcs v).dsu = s.dsu := rfl
@[simp] theorem State.setRcs_lif (s : State) (v : Rcs) : (s.setRcs v).lif = s.lif := rfl
@[simp] theorem State.setRcs_flt (s : State) (v : Rcs) : (s.setRcs v).flt = s.flt := rfl
@[simp] theorem State.setRcs_address (s : State) (v : Rcs) : (s.setRcs v).address = s.address := rfl
@[simp] theorem State.setRcs_pins (s : State) (v : Rcs) : (s.setRcs v).pins = s.pins := rfl
@[simp] theorem State.setRcs_pending (s : State) (v : Rcs) : (s.setRcs v).pending = s.pending := rfl
@[simp] theorem State.setOfl_ptk (s : State) (v : List OutfeedEntry) : (s.setOfl v).ptk = s.ptk := rfl
@[simp] theorem State.setOfl_cfg (s : State) (v : List OutfeedEntry) : (s.setOfl v).cfg = s.cfg := rfl
@[simp] theorem State.setOfl_ifq (s : State) (v : List OutfeedEntry) : (s.setOfl v).ifq = s.ifq := rfl
@[simp] theorem State.setOfl_heads (s : State) (v : List OutfeedEntry) : (s.setOfl v).heads = s.heads := rfl
@[simp] theorem State.setOfl_valves (s : State) (v : List OutfeedEntry) : (s.setOfl v).valves = s.valves := rfl
@[simp] theorem State.setOfl_spu (s : State) (v : List OutfeedEntry) : (s.setOfl v).spu = s.spu := rfl
@[simp] theorem State.setOfl_rcs (s : State) (v : List OutfeedEntry) : (s.setOfl v).rcs = s.rcs := rfl
@[simp] theorem State.setOfl_ofl (s : State) (v : List OutfeedEntry) : (s.setOfl v).ofl = v := rfl
@[simp] theorem State.setOfl_scu (s : State) (v : List OutfeedEntry) : (s.setOfl v).scu = s.scu := rfl
@[simp] theorem State.setOfl_dsu (s : State) (v : List OutfeedEntry) : (s.setOfl v).dsu = s.dsu := rfl
@[simp] theorem State.setOfl_lif (s : State) (v : List OutfeedEntry) : (s.setOfl v).lif = s.lif := rfl
@[simp] theorem State.setOfl_flt (s : State) (v : List OutfeedEntry) : (s.setOfl v).flt = s.flt := rfl
@[simp] theorem State.setOfl_address (s : State) (v : List OutfeedEntry) : (s.setOfl v).address = s.address := rfl
@[simp] theorem State.setOfl_pins (s : State) (v : List OutfeedEntry) : (s.setOfl v).pins = s.pins := rfl
@[simp] theorem State.setOfl_pending (s : State) (v : List OutfeedEntry) : (s.setOfl v).pending = s.pending := rfl
@[simp] theorem State.setScu_ptk (s : State) (v : Scu) : (s.setScu v).ptk = s.ptk := rfl
@[simp] theorem State.setScu_cfg (s : State) (v : Scu) : (s.setScu v).cfg = s.cfg := rfl
@[simp] theorem State.setScu_ifq (s : State) (v : Scu) : (s.setScu v).ifq = s.ifq := rfl
@[simp] theorem State.setScu_heads (s : State) (v : Scu) : (s.setScu v).heads = s.heads := rfl
@[simp] theorem State.setScu_valves (s : State) (v : Scu) : (s.setScu v).valves = s.valves := rfl
@[simp] theorem State.setScu_spu (s : State) (v : Scu) : (s.setScu v).spu = s.spu := rfl
@[simp] theorem State.setScu_rcs (s : State) (v : Scu) : (s.setScu v).rcs = s.rcs := rfl
@[simp] theorem State.setScu_ofl (s : State) (v : Scu) : (s.setScu v).ofl = s.ofl := rfl
@[simp] theorem State.setScu_scu (s : State) (v : Scu) : (s.setScu v).scu = v := rfl
@[simp] theorem State.setScu_dsu (s : State) (v : Scu) : (s.setScu v).dsu = s.dsu := rfl
@[simp] theorem State.setScu_lif (s : State) (v : Scu) : (s.setScu v).lif = s.lif := rfl
@[simp] theorem State.setScu_flt (s : State) (v : Scu) : (s.setScu v).flt = s.flt := rfl
@[simp] theorem State.setScu_address (s : State) (v : Scu) : (s.setScu v).address = s.address := rfl
@[simp] theorem State.setScu_pins (s : State) (v : Scu) : (s.setScu v).pins = s.pins := rfl
@[simp] theorem State.setScu_pending (s : State) (v : Scu) : (s.setScu v).pending = s.pending := rfl
@[simp] theorem State.setDsu_ptk (s : State) (v : Dsu) : (s.setDsu v).ptk = s.ptk := rfl
@[simp] theorem State.setDsu_cfg (s : State) (v : Dsu) : (s.setDsu v).cfg = s.cfg := rfl
@[simp] theorem State.setDsu_ifq (s : State) (v : Dsu) : (s.setDsu v).ifq = s.ifq := rfl
@[simp] theorem State.setDsu_heads (s : State) (v : Dsu) : (s.setDsu v).heads = s.heads := rfl
@[simp] theorem State.setDsu_valves (s : State) (v : Dsu) : (s.setDsu v).valves = s.valves := rfl
@[simp] theorem State.setDsu_spu (s : State) (v : Dsu) : (s.setDsu v).spu = s.spu := rfl
@[simp] theorem State.setDsu_rcs (s : State) (v : Dsu) : (s.setDsu v).rcs = s.rcs := rfl
@[simp] theorem State.setDsu_ofl (s : State) (v : Dsu) : (s.setDsu v).ofl = s.ofl := rfl
@[simp] theorem State.setDsu_scu (s : State) (v : Dsu) : (s.setDsu v).scu = s.scu := rfl
@[simp] theorem State.setDsu_dsu (s : State) (v : Dsu) : (s.setDsu v).dsu = v := rfl
@[simp] theorem State.setDsu_lif (s : State) (v : Dsu) : (s.setDsu v).lif = s.lif := rfl
@[simp] theorem State.setDsu_flt (s : State) (v : Dsu) : (s.setDsu v).flt = s.flt := rfl
@[simp] theorem State.setDsu_address (s : State) (v : Dsu) : (s.setDsu v).address = s.address := rfl
@[simp] theorem State.setDsu_pins (s : State) (v : Dsu) : (s.setDsu v).pins = s.pins := rfl
@[simp] theorem State.setDsu_pending (s : State) (v : Dsu) : (s.setDsu v).pending = s.pending := rfl
@[simp] theorem State.setLif_ptk (s : State) (v : Lif) : (s.setLif v).ptk = s.ptk := rfl
@[simp] theorem State.setLif_cfg (s : State) (v : Lif) : (s.setLif v).cfg = s.cfg := rfl
@[simp] theorem State.setLif_ifq (s : State) (v : Lif) : (s.setLif v).ifq = s.ifq := rfl
@[simp] theorem State.setLif_heads (s : State) (v : Lif) : (s.setLif v).heads = s.heads := rfl
@[simp] theorem State.setLif_valves (s : State) (v : Lif) : (s.setLif v).valves = s.valves := rfl
@[simp] theorem State.setLif_spu (s : State) (v : Lif) : (s.setLif v).spu = s.spu := rfl
@[simp] theorem State.setLif_rcs (s : State) (v : Lif) : (s.setLif v).rcs = s.rcs := rfl
@[simp] theorem State.setLif_ofl (s : State) (v : Lif) : (s.setLif v).ofl = s.ofl := rfl
@[simp] theorem State.setLif_scu (s : State) (v : Lif) : (s.setLif v).scu = s.scu := rfl
@[simp] theorem State.setLif_dsu (s : State) (v : Lif) : (s.setLif v).dsu = s.dsu := rfl
@[simp] theorem State.setLif_lif (s : State) (v : Lif) : (s.setLif v).lif = v := rfl
@[simp] theorem State.setLif_flt (s : State) (v : Lif) : (s.setLif v).flt = s.flt := rfl
@[simp] theorem State.setLif_address (s : State) (v : Lif) : (s.setLif v).address = s.address := rfl
@[simp] theorem State.setLif_pins (s : State) (v : Lif) : (s.setLif v).pins = s.pins := rfl
@[simp] theorem State.setLif_pending (s : State) (v : Lif) : (s.setLif v).pending = s.pending := rfl
@[simp] theorem State.setFlt_ptk (s : State) (v : FaultList) : (s.setFlt v).ptk = s.ptk := rfl
@[simp] theorem State.setFlt_cfg (s : State) (v : FaultList) : (s.setFlt v).cfg = s.cfg := rfl
@[simp] theorem State.setFlt_ifq (s : State) (v : FaultList) : (s.setFlt v).ifq = s.ifq := rfl
@[simp] theorem State.setFlt_heads (s : State) (v : FaultList) : (s.setFlt v).heads = s.heads := rfl
@[simp] theorem State.setFlt_valves (s : State) (v : FaultList) : (s.setFlt v).valves = s.valves := rfl
@[simp] theorem State.setFlt_spu (s : State) (v : FaultList) : (s.setFlt v).spu = s.spu := rfl
@[simp] theorem State.setFlt_rcs (s : State) (v : FaultList) : (s.setFlt v).rcs = s.rcs := rfl
@[simp] theorem State.setFlt_ofl (s : State) (v : FaultList) : (s.setFlt v).ofl = s.ofl := rfl
@[simp] theorem State.setFlt_scu (s : State) (v : FaultList) : (s.setFlt v).scu = s.scu := rfl
@[simp] theorem State.setFlt_dsu (s : State) (v : FaultList) : (s.setFlt v).dsu = s.dsu := rfl
@[simp] theorem State.setFlt_lif (s : State) (v : FaultList) : (s.setFlt v).lif = s.lif := rfl
@[simp] theorem State.setFlt_flt (s : State) (v : FaultList) : (s.setFlt v).flt = v := rfl
@[simp] theorem State.setFlt_address (s : State) (v : FaultList) : (s.setFlt v).address = s.address := rfl
@[simp] theorem State.setFlt_pins (s : State) (v : FaultList) : (s.setFlt v).pins = s.pins := rfl
@[simp] theorem State.setFlt_pending (s : State) (v : FaultList) : (s.setFlt v).pending = s.pending := rfl
@[simp] theorem State.setAddress_ptk (s : State) (v : Byte) : (s.setAddress v).ptk = s.ptk := rfl
@[simp] theorem State.setAddress_cfg (s : State) (v : Byte) : (s.setAddress v).cfg = s.cfg := rfl
@[simp] theorem State.setAddress_ifq (s : State) (v : Byte) : (s.setAddress v).ifq = s.ifq := rfl
@[simp] theorem State.setAddress_heads (s : State) (v : Byte) : (s.setAddress v).heads = s.heads := rfl
@[simp] theorem State.setAddress_valves (s : State) (v : Byte) : (s.setAddress v).valves = s.valves := rfl
@[simp] theorem State.setAddress_spu (s : State) (v : Byte) : (s.setAddress v).spu = s.spu := rfl
@[simp] theorem State.setAddress_rcs (s : State) (v : Byte) : (s.setAddress v).rcs = s.rcs := rfl
@[simp] theorem State.setAddress_ofl (s : State) (v : Byte) : (s.setAddress v).ofl = s.ofl := rfl
@[simp] theorem State.setAddress_scu (s : State) (v : Byte) : (s.setAddress v).scu = s.scu := rfl
@[simp] theorem State.setAddress_dsu (s : State) (v : Byte) : (s.setAddress v).dsu = s.dsu := rfl
@[simp] theorem State.setAddress_lif (s : State) (v : Byte) : (s.setAddress v).lif = s.lif := rfl
@[simp] theorem State.setAddress_flt (s : State) (v : Byte) : (s.setAddress v).flt = s.flt := rfl
@[simp] theorem State.setAddress_address (s : State) (v : Byte) : (s.setAddress v).address = v := rfl
@[simp] theorem State.setAddress_pins (s : State) (v : Byte) : (s.setAddress v).pins = s.pins := rfl
@[simp] theorem State.setAddress_pending (s : State) (v : Byte) : (s.setAddress v).pending = s.pending := rfl
@[simp] theorem State.setPins_ptk (s : State) (v : Pins) : (s.setPins v).ptk = s.ptk := rfl
@[simp] theorem State.setPins_cfg (s : State) (v : Pins) : (s.setPins v).cfg = s.cfg := rfl
@[simp] theorem State.setPins_ifq (s : State) (v : Pins) : (s.setPins v).ifq = s.ifq := rfl
@[simp] theorem State.setPins_heads (s : State) (v : Pins) : (s.setPins v).heads = s.heads := rfl
@[simp] theorem State.setPins_valves (s : State) (v : Pins) : (s.setPins v).valves = s.valves := rfl
@[simp] theorem State.setPins_spu (s : State) (v : Pins) : (s.setPins v).spu = s.spu := rfl
@[simp] theorem State.setPins_rcs (s : State) (v : Pins) : (s.setPins v).rcs = s.rcs := rfl
@[simp] theorem State.setPins_ofl (s : State) (v : Pins) : (s.setPins v).ofl = s.ofl := rfl
@[simp] theorem State.setPins_scu (s : State) (v : Pins) : (s.setPins v).scu = s.scu := rfl
@[simp] theorem State.setPins_dsu (s : State) (v : Pins) : (s.setPins v).dsu = s.dsu := rfl
@[simp] theorem State.setPins_lif (s : State) (v : Pins) : (s.setPins v).lif = s.lif := rfl
@[simp] theorem State.setPins_flt (s : State) (v : Pins) : (s.setPins v).flt = s.flt := rfl
@[simp] theorem State.setPins_address (s : State) (v : Pins) : (s.setPins v).address = s.address := rfl
@[simp] theorem State.setPins_pins (s : State) (v : Pins) : (s.setPins v).pins = v := rfl
@[simp] theorem State.setPins_pending (s : State) (v : Pins) : (s.setPins v).pending = s.pending := rfl
@[simp] theorem State.setPending_ptk (s : State) (v : List Instr) : (s.setPending v).ptk = s.ptk := rfl
@[simp] theorem State.setPending_cfg (s : State) (v : List Instr) : (s.setPending v).cfg = s.cfg := rfl
@[simp] theorem State.setPending_ifq (s : State) (v : List Instr) : (s.setPending v).ifq = s.ifq := rfl
@[simp] theorem State.setPending_heads (s : State) (v : List Instr) : (s.setPending v).heads = s.heads := rfl
@[simp] theorem State.setPending_valves (s : State) (v : List Instr) : (s.setPending v).valves = s.valves := rfl
@[simp] theorem State.setPending_spu (s : State) (v : List Instr) : (s.setPending v).spu = s.spu := rfl
@[simp] theorem State.setPending_rcs (s : State) (v : List Instr) : (s.setPending v).rcs = s.rcs := rfl
@[simp] theorem State.setPending_ofl (s : State) (v : List Instr) : (s.setPending v).ofl = s.ofl := rfl
@[simp] theorem State.setPending_scu (s : State) (v : List Instr) : (s.setPending v).scu = s.scu := rfl
@[simp] theorem State.setPending_dsu (s : State) (v : List Instr) : (s.setPending v).dsu = s.dsu := rfl
@[simp] theorem State.setPending_lif (s : State) (v : List Instr) : (s.setPending v).lif = s.lif := rfl
@[simp] theorem State.setPending_flt (s : State) (v : List Instr) : (s.setPending v).flt = s.flt := rfl
@[simp] theorem State.setPending_address (s : State) (v : List Instr) : (s.setPending v).address = s.address := rfl
@[simp] theorem State.setPending_pins (s : State) (v : List Instr) : (s.setPending v).pins = s.pins := rfl
@[simp] theorem State.setPending_pending (s : State) (v : List Instr) : (s.setPending v).pending = v := rfl

end Sys2Proof.Machine
end

