-- ==== Sys2Proof/Laws/Ops.lean ====
section
/-! SUPPORT. What each shared operation of Machine/Ops.lean leaves unchanged, and what it does to what it changes. -/

namespace Sys2Proof.Machine

/-! ### One head, one valve, one drive -/

@[simp] theorem head_setHead_same (s : State) (k : Fin 12) (h : Head) : (s.setHead k h).head k = h := by
  simp [State.setHead, State.head, State.setHeads]

@[simp] theorem head_setHead_ne (s : State) {k l : Fin 12} (h : Head) (hne : k ≠ l) :
    (s.setHead k h).head l = s.head l := by
  have : k.val ≠ l.val := fun e => hne (Fin.ext e)
  simp [State.setHead, State.head, State.setHeads, this]

@[simp] theorem valve_setValve_same (s : State) (k : Fin 12) (v : Bool) : (s.setValve k v).valve k = v := by
  simp [State.setValve, State.valve, State.setValves]

@[simp] theorem valve_setValve_ne (s : State) {k l : Fin 12} (v : Bool) (hne : k ≠ l) :
    (s.setValve k v).valve l = s.valve l := by
  have : k.val ≠ l.val := fun e => hne (Fin.ext e)
  simp [State.setValve, State.valve, State.setValves, this]

@[simp] theorem spindle_setSpindle_same (s : State) (k : Fin 12) (v : Spindle) : (s.setSpindle k v).spindle k = v := by
  simp [State.setSpindle, State.spindle, State.setSpu]

@[simp] theorem spindle_setSpindle_ne (s : State) {k l : Fin 12} (v : Spindle) (hne : k ≠ l) :
    (s.setSpindle k v).spindle l = s.spindle l := by
  have : k.val ≠ l.val := fun e => hne (Fin.ext e)
  simp [State.setSpindle, State.spindle, State.setSpu, this]

/-- An operation that keeps a block keeps what is read from it alone. -/
theorem head_congr {s t : State} (h : t.heads = s.heads) (k : Fin 12) : t.head k = s.head k := by
  simp [State.head, h]

theorem valve_congr {s t : State} (h : t.valves = s.valves) (k : Fin 12) : t.valve k = s.valve k := by
  simp [State.valve, h]

theorem spindle_congr {s t : State} (h : t.spu = s.spu) (k : Fin 12) : t.spindle k = s.spindle k := by
  simp [State.spindle, h]

theorem configWord_congr {s t : State} (h : t.cfg = s.cfg) (w : ConfigWord) : t.configWord w = s.configWord w := by
  simp [State.configWord, h]

theorem angle_congr {s t : State} (h : t.ptk = s.ptk) (k : Fin 12) : t.angle k = s.angle k := by
  simp [State.angle, State.highWater, h]

@[simp] theorem setSpindle_position (s : State) (k : Fin 12) (v : Spindle) :
    (s.setSpindle k v).spu.position = s.spu.position := rfl

@[simp] theorem setSpindle_slotEnded (s : State) (k : Fin 12) (v : Spindle) :
    (s.setSpindle k v).spu.slotEnded = s.spu.slotEnded := rfl

@[simp] theorem raise_flt (s : State) (c : FaultCode) (d : Byte) :
    (s.raise c d).flt = s.flt.raise ⟨c, s.ptk.p, d⟩ := rfl

@[simp] theorem State.setHead_ptk (s : State) (k : Fin 12) (h : Head) : (s.setHead k h).ptk = s.ptk := rfl
@[simp] theorem State.setHead_cfg (s : State) (k : Fin 12) (h : Head) : (s.setHead k h).cfg = s.cfg := rfl
@[simp] theorem State.setHead_ifq (s : State) (k : Fin 12) (h : Head) : (s.setHead k h).ifq = s.ifq := rfl
@[simp] theorem State.setHead_valves (s : State) (k : Fin 12) (h : Head) : (s.setHead k h).valves = s.valves := rfl
@[simp] theorem State.setHead_spu (s : State) (k : Fin 12) (h : Head) : (s.setHead k h).spu = s.spu := rfl
@[simp] theorem State.setHead_rcs (s : State) (k : Fin 12) (h : Head) : (s.setHead k h).rcs = s.rcs := rfl
@[simp] theorem State.setHead_ofl (s : State) (k : Fin 12) (h : Head) : (s.setHead k h).ofl = s.ofl := rfl
@[simp] theorem State.setHead_scu (s : State) (k : Fin 12) (h : Head) : (s.setHead k h).scu = s.scu := rfl
@[simp] theorem State.setHead_dsu (s : State) (k : Fin 12) (h : Head) : (s.setHead k h).dsu = s.dsu := rfl
@[simp] theorem State.setHead_lif (s : State) (k : Fin 12) (h : Head) : (s.setHead k h).lif = s.lif := rfl
@[simp] theorem State.setHead_flt (s : State) (k : Fin 12) (h : Head) : (s.setHead k h).flt = s.flt := rfl
@[simp] theorem State.setHead_address (s : State) (k : Fin 12) (h : Head) : (s.setHead k h).address = s.address := rfl
@[simp] theorem State.setHead_pins (s : State) (k : Fin 12) (h : Head) : (s.setHead k h).pins = s.pins := rfl
@[simp] theorem State.setHead_pending (s : State) (k : Fin 12) (h : Head) : (s.setHead k h).pending = s.pending := rfl
@[simp] theorem State.setValve_ptk (s : State) (k : Fin 12) (v : Bool) : (s.setValve k v).ptk = s.ptk := rfl
@[simp] theorem State.setValve_cfg (s : State) (k : Fin 12) (v : Bool) : (s.setValve k v).cfg = s.cfg := rfl
@[simp] theorem State.setValve_ifq (s : State) (k : Fin 12) (v : Bool) : (s.setValve k v).ifq = s.ifq := rfl
@[simp] theorem State.setValve_heads (s : State) (k : Fin 12) (v : Bool) : (s.setValve k v).heads = s.heads := rfl
@[simp] theorem State.setValve_spu (s : State) (k : Fin 12) (v : Bool) : (s.setValve k v).spu = s.spu := rfl
@[simp] theorem State.setValve_rcs (s : State) (k : Fin 12) (v : Bool) : (s.setValve k v).rcs = s.rcs := rfl
@[simp] theorem State.setValve_ofl (s : State) (k : Fin 12) (v : Bool) : (s.setValve k v).ofl = s.ofl := rfl
@[simp] theorem State.setValve_scu (s : State) (k : Fin 12) (v : Bool) : (s.setValve k v).scu = s.scu := rfl
@[simp] theorem State.setValve_dsu (s : State) (k : Fin 12) (v : Bool) : (s.setValve k v).dsu = s.dsu := rfl
@[simp] theorem State.setValve_lif (s : State) (k : Fin 12) (v : Bool) : (s.setValve k v).lif = s.lif := rfl
@[simp] theorem State.setValve_flt (s : State) (k : Fin 12) (v : Bool) : (s.setValve k v).flt = s.flt := rfl
@[simp] theorem State.setValve_address (s : State) (k : Fin 12) (v : Bool) : (s.setValve k v).address = s.address := rfl
@[simp] theorem State.setValve_pins (s : State) (k : Fin 12) (v : Bool) : (s.setValve k v).pins = s.pins := rfl
@[simp] theorem State.setValve_pending (s : State) (k : Fin 12) (v : Bool) : (s.setValve k v).pending = s.pending := rfl
@[simp] theorem State.setSpindle_ptk (s : State) (k : Fin 12) (v : Spindle) : (s.setSpindle k v).ptk = s.ptk := rfl
@[simp] theorem State.setSpindle_cfg (s : State) (k : Fin 12) (v : Spindle) : (s.setSpindle k v).cfg = s.cfg := rfl
@[simp] theorem State.setSpindle_ifq (s : State) (k : Fin 12) (v : Spindle) : (s.setSpindle k v).ifq = s.ifq := rfl
@[simp] theorem State.setSpindle_heads (s : State) (k : Fin 12) (v : Spindle) : (s.setSpindle k v).heads = s.heads := rfl
@[simp] theorem State.setSpindle_valves (s : State) (k : Fin 12) (v : Spindle) : (s.setSpindle k v).valves = s.valves := rfl
@[simp] theorem State.setSpindle_rcs (s : State) (k : Fin 12) (v : Spindle) : (s.setSpindle k v).rcs = s.rcs := rfl
@[simp] theorem State.setSpindle_ofl (s : State) (k : Fin 12) (v : Spindle) : (s.setSpindle k v).ofl = s.ofl := rfl
@[simp] theorem State.setSpindle_scu (s : State) (k : Fin 12) (v : Spindle) : (s.setSpindle k v).scu = s.scu := rfl
@[simp] theorem State.setSpindle_dsu (s : State) (k : Fin 12) (v : Spindle) : (s.setSpindle k v).dsu = s.dsu := rfl
@[simp] theorem State.setSpindle_lif (s : State) (k : Fin 12) (v : Spindle) : (s.setSpindle k v).lif = s.lif := rfl
@[simp] theorem State.setSpindle_flt (s : State) (k : Fin 12) (v : Spindle) : (s.setSpindle k v).flt = s.flt := rfl
@[simp] theorem State.setSpindle_address (s : State) (k : Fin 12) (v : Spindle) : (s.setSpindle k v).address = s.address := rfl
@[simp] theorem State.setSpindle_pins (s : State) (k : Fin 12) (v : Spindle) : (s.setSpindle k v).pins = s.pins := rfl
@[simp] theorem State.setSpindle_pending (s : State) (k : Fin 12) (v : Spindle) : (s.setSpindle k v).pending = s.pending := rfl
@[simp] theorem State.raise_ptk (s : State) (c : FaultCode) (d : Byte) : (s.raise c d).ptk = s.ptk := rfl
@[simp] theorem State.raise_cfg (s : State) (c : FaultCode) (d : Byte) : (s.raise c d).cfg = s.cfg := rfl
@[simp] theorem State.raise_ifq (s : State) (c : FaultCode) (d : Byte) : (s.raise c d).ifq = s.ifq := rfl
@[simp] theorem State.raise_heads (s : State) (c : FaultCode) (d : Byte) : (s.raise c d).heads = s.heads := rfl
@[simp] theorem State.raise_valves (s : State) (c : FaultCode) (d : Byte) : (s.raise c d).valves = s.valves := rfl
@[simp] theorem State.raise_spu (s : State) (c : FaultCode) (d : Byte) : (s.raise c d).spu = s.spu := rfl
@[simp] theorem State.raise_rcs (s : State) (c : FaultCode) (d : Byte) : (s.raise c d).rcs = s.rcs := rfl
@[simp] theorem State.raise_ofl (s : State) (c : FaultCode) (d : Byte) : (s.raise c d).ofl = s.ofl := rfl
@[simp] theorem State.raise_scu (s : State) (c : FaultCode) (d : Byte) : (s.raise c d).scu = s.scu := rfl
@[simp] theorem State.raise_dsu (s : State) (c : FaultCode) (d : Byte) : (s.raise c d).dsu = s.dsu := rfl
@[simp] theorem State.raise_lif (s : State) (c : FaultCode) (d : Byte) : (s.raise c d).lif = s.lif := rfl
@[simp] theorem State.raise_address (s : State) (c : FaultCode) (d : Byte) : (s.raise c d).address = s.address := rfl
@[simp] theorem State.raise_pins (s : State) (c : FaultCode) (d : Byte) : (s.raise c d).pins = s.pins := rfl
@[simp] theorem State.raise_pending (s : State) (c : FaultCode) (d : Byte) : (s.raise c d).pending = s.pending := rfl

@[simp] theorem head_setPtk (s : State) (v : Ptk) (k : Fin 12) : (s.setPtk v).head k = s.head k := rfl
@[simp] theorem head_setCfg (s : State) (v : Vector Word 7) (k : Fin 12) : (s.setCfg v).head k = s.head k := rfl
@[simp] theorem head_setIfq (s : State) (v : List JarRecord) (k : Fin 12) : (s.setIfq v).head k = s.head k := rfl
@[simp] theorem head_setValves (s : State) (v : Vector Bool 12) (k : Fin 12) : (s.setValves v).head k = s.head k := rfl
@[simp] theorem head_setSpu (s : State) (v : Spu) (k : Fin 12) : (s.setSpu v).head k = s.head k := rfl
@[simp] theorem head_setRcs (s : State) (v : Rcs) (k : Fin 12) : (s.setRcs v).head k = s.head k := rfl
@[simp] theorem head_setOfl (s : State) (v : List OutfeedEntry) (k : Fin 12) : (s.setOfl v).head k = s.head k := rfl
@[simp] theorem head_setScu (s : State) (v : Scu) (k : Fin 12) : (s.setScu v).head k = s.head k := rfl
@[simp] theorem head_setDsu (s : State) (v : Dsu) (k : Fin 12) : (s.setDsu v).head k = s.head k := rfl
@[simp] theorem head_setLif (s : State) (v : Lif) (k : Fin 12) : (s.setLif v).head k = s.head k := rfl
@[simp] theorem head_setFlt (s : State) (v : FaultList) (k : Fin 12) : (s.setFlt v).head k = s.head k := rfl
@[simp] theorem head_setAddress (s : State) (v : Byte) (k : Fin 12) : (s.setAddress v).head k = s.head k := rfl
@[simp] theorem head_setPins (s : State) (v : Pins) (k : Fin 12) : (s.setPins v).head k = s.head k := rfl
@[simp] theorem head_setPending (s : State) (v : List Instr) (k : Fin 12) : (s.setPending v).head k = s.head k := rfl
@[simp] theorem head_setValve (s : State) (i : Fin 12) (x : Bool) (k : Fin 12) : (s.setValve i x).head k = s.head k := rfl
@[simp] theorem head_setSpindle (s : State) (i : Fin 12) (x : Spindle) (k : Fin 12) : (s.setSpindle i x).head k = s.head k := rfl
@[simp] theorem head_raise (s : State) (x : FaultCode) (y : Byte) (k : Fin 12) : (s.raise x y).head k = s.head k := rfl
@[simp] theorem valve_setPtk (s : State) (v : Ptk) (k : Fin 12) : (s.setPtk v).valve k = s.valve k := rfl
@[simp] theorem valve_setCfg (s : State) (v : Vector Word 7) (k : Fin 12) : (s.setCfg v).valve k = s.valve k := rfl
@[simp] theorem valve_setIfq (s : State) (v : List JarRecord) (k : Fin 12) : (s.setIfq v).valve k = s.valve k := rfl
@[simp] theorem valve_setHeads (s : State) (v : Vector Head 12) (k : Fin 12) : (s.setHeads v).valve k = s.valve k := rfl
@[simp] theorem valve_setSpu (s : State) (v : Spu) (k : Fin 12) : (s.setSpu v).valve k = s.valve k := rfl
@[simp] theorem valve_setRcs (s : State) (v : Rcs) (k : Fin 12) : (s.setRcs v).valve k = s.valve k := rfl
@[simp] theorem valve_setOfl (s : State) (v : List OutfeedEntry) (k : Fin 12) : (s.setOfl v).valve k = s.valve k := rfl
@[simp] theorem valve_setScu (s : State) (v : Scu) (k : Fin 12) : (s.setScu v).valve k = s.valve k := rfl
@[simp] theorem valve_setDsu (s : State) (v : Dsu) (k : Fin 12) : (s.setDsu v).valve k = s.valve k := rfl
@[simp] theorem valve_setLif (s : State) (v : Lif) (k : Fin 12) : (s.setLif v).valve k = s.valve k := rfl
@[simp] theorem valve_setFlt (s : State) (v : FaultList) (k : Fin 12) : (s.setFlt v).valve k = s.valve k := rfl
@[simp] theorem valve_setAddress (s : State) (v : Byte) (k : Fin 12) : (s.setAddress v).valve k = s.valve k := rfl
@[simp] theorem valve_setPins (s : State) (v : Pins) (k : Fin 12) : (s.setPins v).valve k = s.valve k := rfl
@[simp] theorem valve_setPending (s : State) (v : List Instr) (k : Fin 12) : (s.setPending v).valve k = s.valve k := rfl
@[simp] theorem valve_setHead (s : State) (i : Fin 12) (x : Head) (k : Fin 12) : (s.setHead i x).valve k = s.valve k := rfl
@[simp] theorem valve_setSpindle (s : State) (i : Fin 12) (x : Spindle) (k : Fin 12) : (s.setSpindle i x).valve k = s.valve k := rfl
@[simp] theorem valve_raise (s : State) (x : FaultCode) (y : Byte) (k : Fin 12) : (s.raise x y).valve k = s.valve k := rfl
@[simp] theorem spindle_setPtk (s : State) (v : Ptk) (k : Fin 12) : (s.setPtk v).spindle k = s.spindle k := rfl
@[simp] theorem spindle_setCfg (s : State) (v : Vector Word 7) (k : Fin 12) : (s.setCfg v).spindle k = s.spindle k := rfl
@[simp] theorem spindle_setIfq (s : State) (v : List JarRecord) (k : Fin 12) : (s.setIfq v).spindle k = s.spindle k := rfl
@[simp] theorem spindle_setHeads (s : State) (v : Vector Head 12) (k : Fin 12) : (s.setHeads v).spindle k = s.spindle k := rfl
@[simp] theorem spindle_setValves (s : State) (v : Vector Bool 12) (k : Fin 12) : (s.setValves v).spindle k = s.spindle k := rfl
@[simp] theorem spindle_setRcs (s : State) (v : Rcs) (k : Fin 12) : (s.setRcs v).spindle k = s.spindle k := rfl
@[simp] theorem spindle_setOfl (s : State) (v : List OutfeedEntry) (k : Fin 12) : (s.setOfl v).spindle k = s.spindle k := rfl
@[simp] theorem spindle_setScu (s : State) (v : Scu) (k : Fin 12) : (s.setScu v).spindle k = s.spindle k := rfl
@[simp] theorem spindle_setDsu (s : State) (v : Dsu) (k : Fin 12) : (s.setDsu v).spindle k = s.spindle k := rfl
@[simp] theorem spindle_setLif (s : State) (v : Lif) (k : Fin 12) : (s.setLif v).spindle k = s.spindle k := rfl
@[simp] theorem spindle_setFlt (s : State) (v : FaultList) (k : Fin 12) : (s.setFlt v).spindle k = s.spindle k := rfl
@[simp] theorem spindle_setAddress (s : State) (v : Byte) (k : Fin 12) : (s.setAddress v).spindle k = s.spindle k := rfl
@[simp] theorem spindle_setPins (s : State) (v : Pins) (k : Fin 12) : (s.setPins v).spindle k = s.spindle k := rfl
@[simp] theorem spindle_setPending (s : State) (v : List Instr) (k : Fin 12) : (s.setPending v).spindle k = s.spindle k := rfl
@[simp] theorem spindle_setHead (s : State) (i : Fin 12) (x : Head) (k : Fin 12) : (s.setHead i x).spindle k = s.spindle k := rfl
@[simp] theorem spindle_setValve (s : State) (i : Fin 12) (x : Bool) (k : Fin 12) : (s.setValve i x).spindle k = s.spindle k := rfl
@[simp] theorem spindle_raise (s : State) (x : FaultCode) (y : Byte) (k : Fin 12) : (s.raise x y).spindle k = s.spindle k := rfl
@[simp] theorem configWord_setPtk (s : State) (v : Ptk) (w : ConfigWord) : (s.setPtk v).configWord w = s.configWord w := rfl
@[simp] theorem configWord_setIfq (s : State) (v : List JarRecord) (w : ConfigWord) : (s.setIfq v).configWord w = s.configWord w := rfl
@[simp] theorem configWord_setHeads (s : State) (v : Vector Head 12) (w : ConfigWord) : (s.setHeads v).configWord w = s.configWord w := rfl
@[simp] theorem configWord_setValves (s : State) (v : Vector Bool 12) (w : ConfigWord) : (s.setValves v).configWord w = s.configWord w := rfl
@[simp] theorem configWord_setSpu (s : State) (v : Spu) (w : ConfigWord) : (s.setSpu v).configWord w = s.configWord w := rfl
@[simp] theorem configWord_setRcs (s : State) (v : Rcs) (w : ConfigWord) : (s.setRcs v).configWord w = s.configWord w := rfl
@[simp] theorem configWord_setOfl (s : State) (v : List OutfeedEntry) (w : ConfigWord) : (s.setOfl v).configWord w = s.configWord w := rfl
@[simp] theorem configWord_setScu (s : State) (v : Scu) (w : ConfigWord) : (s.setScu v).configWord w = s.configWord w := rfl
@[simp] theorem configWord_setDsu (s : State) (v : Dsu) (w : ConfigWord) : (s.setDsu v).configWord w = s.configWord w := rfl
@[simp] theorem configWord_setLif (s : State) (v : Lif) (w : ConfigWord) : (s.setLif v).configWord w = s.configWord w := rfl
@[simp] theorem configWord_setFlt (s : State) (v : FaultList) (w : ConfigWord) : (s.setFlt v).configWord w = s.configWord w := rfl
@[simp] theorem configWord_setAddress (s : State) (v : Byte) (w : ConfigWord) : (s.setAddress v).configWord w = s.configWord w := rfl
@[simp] theorem configWord_setPins (s : State) (v : Pins) (w : ConfigWord) : (s.setPins v).configWord w = s.configWord w := rfl
@[simp] theorem configWord_setPending (s : State) (v : List Instr) (w : ConfigWord) : (s.setPending v).configWord w = s.configWord w := rfl
@[simp] theorem configWord_setHead (s : State) (i : Fin 12) (x : Head) (w : ConfigWord) : (s.setHead i x).configWord w = s.configWord w := rfl
@[simp] theorem configWord_setValve (s : State) (i : Fin 12) (x : Bool) (w : ConfigWord) : (s.setValve i x).configWord w = s.configWord w := rfl
@[simp] theorem configWord_setSpindle (s : State) (i : Fin 12) (x : Spindle) (w : ConfigWord) : (s.setSpindle i x).configWord w = s.configWord w := rfl
@[simp] theorem configWord_raise (s : State) (x : FaultCode) (y : Byte) (w : ConfigWord) : (s.raise x y).configWord w = s.configWord w := rfl
@[simp] theorem angle_setCfg (s : State) (v : Vector Word 7) (l : Fin 12) : (s.setCfg v).angle l = s.angle l := rfl
@[simp] theorem angle_setIfq (s : State) (v : List JarRecord) (l : Fin 12) : (s.setIfq v).angle l = s.angle l := rfl
@[simp] theorem angle_setHeads (s : State) (v : Vector Head 12) (l : Fin 12) : (s.setHeads v).angle l = s.angle l := rfl
@[simp] theorem angle_setValves (s : State) (v : Vector Bool 12) (l : Fin 12) : (s.setValves v).angle l = s.angle l := rfl
@[simp] theorem angle_setSpu (s : State) (v : Spu) (l : Fin 12) : (s.setSpu v).angle l = s.angle l := rfl
@[simp] theorem angle_setRcs (s : State) (v : Rcs) (l : Fin 12) : (s.setRcs v).angle l = s.angle l := rfl
@[simp] theorem angle_setOfl (s : State) (v : List OutfeedEntry) (l : Fin 12) : (s.setOfl v).angle l = s.angle l := rfl
@[simp] theorem angle_setScu (s : State) (v : Scu) (l : Fin 12) : (s.setScu v).angle l = s.angle l := rfl
@[simp] theorem angle_setDsu (s : State) (v : Dsu) (l : Fin 12) : (s.setDsu v).angle l = s.angle l := rfl
@[simp] theorem angle_setLif (s : State) (v : Lif) (l : Fin 12) : (s.setLif v).angle l = s.angle l := rfl
@[simp] theorem angle_setFlt (s : State) (v : FaultList) (l : Fin 12) : (s.setFlt v).angle l = s.angle l := rfl
@[simp] theorem angle_setAddress (s : State) (v : Byte) (l : Fin 12) : (s.setAddress v).angle l = s.angle l := rfl
@[simp] theorem angle_setPins (s : State) (v : Pins) (l : Fin 12) : (s.setPins v).angle l = s.angle l := rfl
@[simp] theorem angle_setPending (s : State) (v : List Instr) (l : Fin 12) : (s.setPending v).angle l = s.angle l := rfl
@[simp] theorem angle_setHead (s : State) (i : Fin 12) (x : Head) (l : Fin 12) : (s.setHead i x).angle l = s.angle l := rfl
@[simp] theorem angle_setValve (s : State) (i : Fin 12) (x : Bool) (l : Fin 12) : (s.setValve i x).angle l = s.angle l := rfl
@[simp] theorem angle_setSpindle (s : State) (i : Fin 12) (x : Spindle) (l : Fin 12) : (s.setSpindle i x).angle l = s.angle l := rfl
@[simp] theorem angle_raise (s : State) (x : FaultCode) (y : Byte) (l : Fin 12) : (s.raise x y).angle l = s.angle l := rfl

/-- A fold keeps what each of its steps keeps. -/
theorem foldl_keeps {α β : Type} (g : State → β) (f : State → α → State) (h : ∀ t a, g (f t a) = g t) (l : List α)
    (s : State) : g (l.foldl f s) = g s := by
  induction l generalizing s with
  | nil => rfl
  | cons a l ih => rw [List.foldl_cons, ih, h]

end Sys2Proof.Machine
end

