-- ==== Sys2Proof/Laws/Facts.lean ====
section
/-! SUPPORT. What the operations on one block can do: the Fault List, the record order, the Recipe Store, the tallies and
the table stores. -/

namespace Sys2Proof.Machine

/-! ### Fault List -/

/-- Everything a raise can do (R161). -/
theorem raise_cases (l : FaultList) (e : FaultEntry) :
    (l.active e.code = true ∧ l.raise e = l) ∨
    (l.active e.code = false ∧ l.list.length < 8 ∧ l.raise e = ⟨l.list ++ [e], l.overflow⟩) ∨
    (l.active e.code = false ∧ 8 ≤ l.list.length ∧ l.raise e = ⟨l.list, insertFault e l.overflow⟩) := by
  unfold FaultList.raise
  by_cases h : l.active e.code = true
  · simp [h]
  · by_cases h8 : l.list.length < 8
    · simp [h, h8]
    · simp [h, h8]
      omega

theorem insertFault_perm (e : FaultEntry) (l : List FaultEntry) : (insertFault e l).Perm (e :: l) :=
  List.perm_orderedInsert _ e l

theorem active_iff (l : FaultList) (c : FaultCode) :
    l.active c = true ↔ c ∈ (l.list ++ l.overflow).map (fun e => e.code) := by
  simp [FaultList.active, List.any_eq_true]

theorem promote_cases (l : FaultList) :
    (l.overflow = [] ∧ l.promote = l) ∨
    (∃ e rest, l.overflow = e :: rest ∧ l.promote = ⟨l.list ++ [e], rest⟩) := by
  cases h : l.overflow with
  | nil => simp [FaultList.promote, h]
  | cons e rest => simp [FaultList.promote, h]

/-! ### Records -/

theorem orderRecords_perm (p : Word) (rs : List JarRecord) : (orderRecords p rs).Perm rs :=
  List.perm_insertionSort _ rs

@[simp] theorem orderRecords_length (p : Word) (rs : List JarRecord) : (orderRecords p rs).length = rs.length :=
  (orderRecords_perm p rs).length_eq

theorem insertRecord_perm (p : Word) (r : JarRecord) (rs : List JarRecord) : (insertRecord p r rs).Perm (r :: rs) :=
  List.perm_orderedInsert _ r rs

@[simp] theorem insertRecord_length (p : Word) (r : JarRecord) (rs : List JarRecord) :
    (insertRecord p r rs).length = rs.length + 1 := (insertRecord_perm p r rs).length_eq

@[simp] theorem replaceRecord_length (r : JarRecord) (rs : List JarRecord) :
    (replaceRecord r rs).length = rs.length := by simp [replaceRecord]

/-- A record has offset 0 exactly when it is level with P (R18). -/
theorem recordOffset_eq_zero (p : Word) (r : JarRecord) : recordOffset p r = 0 ↔ r.pitch = p := by
  unfold recordOffset
  rw [← BitVec.toNat_inj, BitVec.toNat_sub]
  have := r.pitch.isLt
  have := p.isLt
  omega

/-- Records with the same offset have the same pitch (R18). -/
theorem recordOffset_inj (p : Word) (a b : JarRecord) : recordOffset p a = recordOffset p b ↔ a.pitch = b.pitch := by
  unfold recordOffset
  rw [← BitVec.toNat_inj, BitVec.toNat_sub, BitVec.toNat_sub]
  have := a.pitch.isLt
  have := b.pitch.isLt
  have := p.isLt
  omega

/-! ### Recipe Store -/

@[simp] theorem bank_setBank_same (r : Rcs) (i : BankId) (x : Bank) : (r.setBank i x).bank i = x := by
  cases i <;> rfl

theorem bank_setBank (r : Rcs) (i j : BankId) (x : Bank) :
    (r.setBank i x).bank j = if j = i then x else r.bank j := by
  cases i <;> cases j <;> rfl

@[simp] theorem setBank_live (r : Rcs) (i : BankId) (x : Bank) : (r.setBank i x).live = r.live := by cases i <;> rfl

@[simp] theorem setBank_retiring (r : Rcs) (i : BankId) (x : Bank) : (r.setBank i x).retiring = r.retiring := by
  cases i <;> rfl

@[simp] theorem setBank_signature (r : Rcs) (i : BankId) (x : Bank) : (r.setBank i x).signature = r.signature := by
  cases i <;> rfl

@[simp] theorem other_ne (i : BankId) : i.other ≠ i := by cases i <;> decide

@[simp] theorem other_other (i : BankId) : i.other.other = i := by cases i <;> rfl

theorem eq_or_eq_other (i j : BankId) : i = j ∨ i = j.other := by cases i <;> cases j <;> simp [BankId.other]

/-- Everything a refill does (R99, R101, R105). -/
theorem refill_eq (r : Rcs) :
    r.refill.live = r.live ∧ r.refill.retiring = false ∧
    r.refill.bank r.live = r.bank r.live ∧
    r.refill.bank r.live.other = ⟨(r.bank r.live).words, (r.bank r.live.other).inFlight⟩ ∧
    r.refill.signature = bankSignature (r.bank r.live).words ∧
    r.refill.readCursor = r.readCursor ∧ r.refill.writeCursor = r.writeCursor := by
  rcases r with ⟨a, b, live, _, _, _, _⟩
  cases live <;> simp [Rcs.refill, Rcs.bank, Rcs.setBank, BankId.other]

/-- A load counts one jar more under its bank and changes no bank's words, no role and no signature (R92). -/
theorem countUp_eq (r : Rcs) (i : BankId) :
    (r.countUp i).live = r.live ∧ (r.countUp i).retiring = r.retiring ∧ (r.countUp i).signature = r.signature ∧
    (∀ j, ((r.countUp i).bank j).words = (r.bank j).words) ∧
    (∀ j, ((r.countUp i).bank j).inFlight = (r.bank j).inFlight + if j = i then 1 else 0) := by
  simp only [Rcs.countUp, setBank_live, setBank_retiring, setBank_signature, true_and]
  constructor <;> intro j <;> rw [bank_setBank] <;> split <;> simp_all

/-- Everything a removal can do: the count falls, and a RETIRING bank's count falling to 0 completes the drain (R92,
R101). -/
theorem countDown_cases (r : Rcs) (i : BankId) :
    (r.role i = .retiring ∧ (r.bank i).inFlight ≤ 1 ∧
      r.countDown i = (r.setBank i ⟨(r.bank i).words, (r.bank i).inFlight - 1⟩).refill) ∨
    (¬(r.role i = .retiring ∧ (r.bank i).inFlight ≤ 1) ∧
      r.countDown i = r.setBank i ⟨(r.bank i).words, (r.bank i).inFlight - 1⟩) := by
  by_cases h : r.role i = .retiring ∧ (r.bank i).inFlight ≤ 1
  · left
    refine ⟨h.1, h.2, ?_⟩
    simp only [Rcs.countDown, bank_setBank_same]
    rw [if_pos ⟨h.1, by omega⟩]
  · right
    refine ⟨h, ?_⟩
    simp only [Rcs.countDown, bank_setBank_same]
    rw [if_neg (fun hc => h ⟨hc.1, by omega⟩)]

/-! ### Stores -/

/-- A store leaves every word before its first index unchanged. -/
theorem storeWords_below {n : Nat} (clamp : Nat → Word → Word) (ws : List Word) (i : Nat) (v : Vector Word n) (j : Nat)
    (h : j < i) : (storeWords clamp ws i v)[j]? = v[j]? := by
  induction ws generalizing i v with
  | nil => rfl
  | cons w ws ih =>
    rw [storeWords, ih (i + 1) _ (by omega)]
    simp [Vector.getElem?_setIfInBounds]
    omega

/-- What a store leaves at each index: the clamped word, within the table and the words given; else the word before. -/
theorem storeWords_get {n : Nat} (clamp : Nat → Word → Word) (ws : List Word) (i : Nat) (v : Vector Word n) (j : Nat) :
    (storeWords clamp ws i v)[j]? =
      if j < n ∧ i ≤ j ∧ j < i + ws.length then (ws[j - i]?).map (clamp j) else v[j]? := by
  induction ws generalizing i v with
  | nil =>
    simp [storeWords]
  | cons w ws ih =>
    rw [storeWords]
    rcases Nat.lt_trichotomy j i with h | h | h
    · rw [storeWords_below _ _ _ _ _ (by omega), if_neg (by omega)]
      simp [Vector.getElem?_setIfInBounds]
      omega
    · subst h
      rw [storeWords_below _ _ _ _ _ (by omega)]
      by_cases hn : j < n <;> simp [hn]
    · rw [ih]
      by_cases hc : j < n ∧ i + 1 ≤ j ∧ j < i + 1 + ws.length
      · rw [if_pos hc, if_pos (by simp; omega)]
        have : j - i = (j - (i + 1)) + 1 := by omega
        rw [this, List.getElem?_cons_succ]
      · rw [if_neg hc, if_neg (by simp; omega)]
        simp [Vector.getElem?_setIfInBounds]
        omega

end Sys2Proof.Machine
end

