-- ==== Sys2Proof/Laws/FrameOut.lean ====
section
/-! SUPPORT. The blocks that each operation of the downstream port and the responses leaves unchanged. -/

namespace Sys2Proof.Machine

@[simp] theorem startOwn_frame (s : State) :
    (startOwn s).ptk = s.ptk ∧ (startOwn s).cfg = s.cfg ∧ (startOwn s).ifq = s.ifq ∧ (startOwn s).heads = s.heads ∧
    (startOwn s).valves = s.valves ∧ (startOwn s).spu = s.spu ∧ (startOwn s).rcs = s.rcs ∧
    (startOwn s).ofl = s.ofl ∧ (startOwn s).scu = s.scu ∧ (startOwn s).dsu = s.dsu ∧ (startOwn s).flt = s.flt ∧
    (startOwn s).address = s.address ∧ (startOwn s).pins = s.pins ∧ (startOwn s).pending = s.pending := by
  unfold startOwn
  try dsimp only
  (repeat' split) <;> simp

@[simp] theorem startForwarded_frame (s : State) :
    (startForwarded s).ptk = s.ptk ∧ (startForwarded s).cfg = s.cfg ∧ (startForwarded s).ifq = s.ifq ∧
    (startForwarded s).heads = s.heads ∧ (startForwarded s).valves = s.valves ∧ (startForwarded s).spu = s.spu ∧
    (startForwarded s).rcs = s.rcs ∧ (startForwarded s).ofl = s.ofl ∧ (startForwarded s).scu = s.scu ∧
    (startForwarded s).dsu = s.dsu ∧ (startForwarded s).flt = s.flt ∧ (startForwarded s).address = s.address ∧
    (startForwarded s).pins = s.pins ∧ (startForwarded s).pending = s.pending := by
  unfold startForwarded
  try dsimp only
  (repeat' split) <;> simp

@[simp] theorem runArbiter_frame (s : State) :
    (runArbiter s).ptk = s.ptk ∧ (runArbiter s).cfg = s.cfg ∧ (runArbiter s).ifq = s.ifq ∧
    (runArbiter s).heads = s.heads ∧ (runArbiter s).valves = s.valves ∧ (runArbiter s).spu = s.spu ∧
    (runArbiter s).rcs = s.rcs ∧ (runArbiter s).ofl = s.ofl ∧ (runArbiter s).scu = s.scu ∧
    (runArbiter s).dsu = s.dsu ∧ (runArbiter s).flt = s.flt ∧ (runArbiter s).address = s.address ∧
    (runArbiter s).pins = s.pins ∧ (runArbiter s).pending = s.pending := by
  unfold runArbiter
  try dsimp only
  (repeat' split) <;> simp

@[simp] theorem runArbiterIfIdle_frame (s : State) :
    (runArbiterIfIdle s).ptk = s.ptk ∧ (runArbiterIfIdle s).cfg = s.cfg ∧ (runArbiterIfIdle s).ifq = s.ifq ∧
    (runArbiterIfIdle s).heads = s.heads ∧ (runArbiterIfIdle s).valves = s.valves ∧
    (runArbiterIfIdle s).spu = s.spu ∧ (runArbiterIfIdle s).rcs = s.rcs ∧ (runArbiterIfIdle s).ofl = s.ofl ∧
    (runArbiterIfIdle s).scu = s.scu ∧ (runArbiterIfIdle s).dsu = s.dsu ∧ (runArbiterIfIdle s).flt = s.flt ∧
    (runArbiterIfIdle s).address = s.address ∧ (runArbiterIfIdle s).pins = s.pins ∧
    (runArbiterIfIdle s).pending = s.pending := by
  unfold runArbiterIfIdle
  try dsimp only
  (repeat' split) <;> simp

@[simp] theorem pushFrame_frame (s : State) (f : Frame) :
    (pushFrame f s).ptk = s.ptk ∧ (pushFrame f s).cfg = s.cfg ∧ (pushFrame f s).ifq = s.ifq ∧
    (pushFrame f s).heads = s.heads ∧ (pushFrame f s).valves = s.valves ∧ (pushFrame f s).spu = s.spu ∧
    (pushFrame f s).rcs = s.rcs ∧ (pushFrame f s).ofl = s.ofl ∧ (pushFrame f s).scu = s.scu ∧
    (pushFrame f s).dsu = s.dsu ∧ (pushFrame f s).flt = s.flt ∧ (pushFrame f s).address = s.address ∧
    (pushFrame f s).pins = s.pins ∧ (pushFrame f s).pending = s.pending := by
  unfold pushFrame
  try dsimp only
  (repeat' split) <;> simp

@[simp] theorem pushJarFrame_frame (s : State) (p : Word) (f : Frame) :
    (pushJarFrame p f s).ptk = s.ptk ∧ (pushJarFrame p f s).cfg = s.cfg ∧ (pushJarFrame p f s).ifq = s.ifq ∧
    (pushJarFrame p f s).heads = s.heads ∧ (pushJarFrame p f s).valves = s.valves ∧
    (pushJarFrame p f s).spu = s.spu ∧ (pushJarFrame p f s).rcs = s.rcs ∧ (pushJarFrame p f s).ofl = s.ofl ∧
    (pushJarFrame p f s).scu = s.scu ∧ (pushJarFrame p f s).dsu = s.dsu ∧ (pushJarFrame p f s).address = s.address ∧
    (pushJarFrame p f s).pins = s.pins ∧ (pushJarFrame p f s).pending = s.pending := by
  unfold pushJarFrame
  try dsimp only
  (repeat' split) <;> simp

@[simp] theorem forwardFrame_frame (s : State) (f : SealedFrame) :
    (forwardFrame f s).ptk = s.ptk ∧ (forwardFrame f s).cfg = s.cfg ∧ (forwardFrame f s).ifq = s.ifq ∧
    (forwardFrame f s).heads = s.heads ∧ (forwardFrame f s).valves = s.valves ∧ (forwardFrame f s).spu = s.spu ∧
    (forwardFrame f s).rcs = s.rcs ∧ (forwardFrame f s).ofl = s.ofl ∧ (forwardFrame f s).scu = s.scu ∧
    (forwardFrame f s).dsu = s.dsu ∧ (forwardFrame f s).flt = s.flt ∧ (forwardFrame f s).address = s.address ∧
    (forwardFrame f s).pins = s.pins ∧ (forwardFrame f s).pending = s.pending := by
  simp [forwardFrame]

@[simp] theorem respond_frame (s : State) (c t : Byte) (st : Status) (d : List Byte) :
    (respond c t st d s).ptk = s.ptk ∧ (respond c t st d s).cfg = s.cfg ∧ (respond c t st d s).ifq = s.ifq ∧
    (respond c t st d s).heads = s.heads ∧ (respond c t st d s).valves = s.valves ∧
    (respond c t st d s).spu = s.spu ∧ (respond c t st d s).rcs = s.rcs ∧ (respond c t st d s).ofl = s.ofl ∧
    (respond c t st d s).scu = s.scu ∧ (respond c t st d s).dsu = s.dsu ∧ (respond c t st d s).flt = s.flt ∧
    (respond c t st d s).address = s.address ∧ (respond c t st d s).pins = s.pins ∧
    (respond c t st d s).pending = s.pending := by
  simp [respond]

@[simp] theorem refuse_frame (s : State) (c t : Byte) (st : Status) :
    (refuse c t st s).ptk = s.ptk ∧ (refuse c t st s).cfg = s.cfg ∧ (refuse c t st s).ifq = s.ifq ∧
    (refuse c t st s).heads = s.heads ∧ (refuse c t st s).valves = s.valves ∧ (refuse c t st s).spu = s.spu ∧
    (refuse c t st s).rcs = s.rcs ∧ (refuse c t st s).ofl = s.ofl ∧ (refuse c t st s).scu = s.scu ∧
    (refuse c t st s).dsu = s.dsu ∧ (refuse c t st s).flt = s.flt ∧ (refuse c t st s).address = s.address ∧
    (refuse c t st s).pins = s.pins ∧ (refuse c t st s).pending = s.pending := by
  simp [refuse]

end Sys2Proof.Machine
end

