-- ==== Sys2Proof/Laws/FrameOutfeed.lean ====
section
/-! SUPPORT. The blocks that each operation of the Outfeed Line, the Seal Check Unit and a jar's completion leaves unchanged. -/

namespace Sys2Proof.Machine

@[simp] theorem countRejectRun_frame (s : State) (d : Disposition) :
    (countRejectRun d s).ptk = s.ptk ∧ (countRejectRun d s).cfg = s.cfg ∧ (countRejectRun d s).ifq = s.ifq ∧
    (countRejectRun d s).heads = s.heads ∧ (countRejectRun d s).valves = s.valves ∧
    (countRejectRun d s).spu = s.spu ∧ (countRejectRun d s).rcs = s.rcs ∧ (countRejectRun d s).ofl = s.ofl ∧
    (countRejectRun d s).scu = s.scu ∧ (countRejectRun d s).lif = s.lif ∧ (countRejectRun d s).address = s.address ∧
    (countRejectRun d s).pins = s.pins ∧ (countRejectRun d s).pending = s.pending := by
  unfold countRejectRun
  try dsimp only
  (repeat' split) <;> simp

@[simp] theorem completeJar_frame (s : State) (j : Jar) (m : Option Int) :
    (completeJar j m s).ptk = s.ptk ∧ (completeJar j m s).cfg = s.cfg ∧ (completeJar j m s).ifq = s.ifq ∧
    (completeJar j m s).heads = s.heads ∧ (completeJar j m s).valves = s.valves ∧ (completeJar j m s).spu = s.spu ∧
    (completeJar j m s).rcs = s.rcs ∧ (completeJar j m s).ofl = s.ofl ∧ (completeJar j m s).scu = s.scu ∧
    (completeJar j m s).address = s.address ∧ (completeJar j m s).pins = s.pins ∧
    (completeJar j m s).pending = s.pending := by
  simp [completeJar]

@[simp] theorem releaseTag_frame (s : State) (j : Jar) :
    (releaseTag j s).ptk = s.ptk ∧ (releaseTag j s).cfg = s.cfg ∧ (releaseTag j s).ifq = s.ifq ∧
    (releaseTag j s).heads = s.heads ∧ (releaseTag j s).valves = s.valves ∧ (releaseTag j s).spu = s.spu ∧
    (releaseTag j s).ofl = s.ofl ∧ (releaseTag j s).scu = s.scu ∧ (releaseTag j s).dsu = s.dsu ∧
    (releaseTag j s).lif = s.lif ∧ (releaseTag j s).flt = s.flt ∧ (releaseTag j s).address = s.address ∧
    (releaseTag j s).pins = s.pins ∧ (releaseTag j s).pending = s.pending := by
  unfold releaseTag
  try dsimp only
  (repeat' split) <;> simp

@[simp] theorem passOn_frame (s : State) (j : Jar) (m : Option Int) :
    (passOn j m s).ptk = s.ptk ∧ (passOn j m s).cfg = s.cfg ∧ (passOn j m s).ifq = s.ifq ∧
    (passOn j m s).heads = s.heads ∧ (passOn j m s).valves = s.valves ∧ (passOn j m s).spu = s.spu ∧
    (passOn j m s).ofl = s.ofl ∧ (passOn j m s).scu = s.scu ∧ (passOn j m s).address = s.address ∧
    (passOn j m s).pins = s.pins ∧ (passOn j m s).pending = s.pending := by
  simp [passOn]

@[simp] theorem removeOverdue_frame (s : State) :
    (removeOverdue s).ptk = s.ptk ∧ (removeOverdue s).cfg = s.cfg ∧ (removeOverdue s).ifq = s.ifq ∧
    (removeOverdue s).heads = s.heads ∧ (removeOverdue s).valves = s.valves ∧ (removeOverdue s).spu = s.spu ∧
    (removeOverdue s).scu = s.scu ∧ (removeOverdue s).address = s.address ∧ (removeOverdue s).pins = s.pins ∧
    (removeOverdue s).pending = s.pending := by
  unfold removeOverdue
  refine ⟨?_, ?_, ?_, ?_, ?_, ?_, ?_, ?_, ?_, ?_⟩ <;> exact (foldl_keeps _ _ (by intros; simp) _ _).trans (by simp)

@[simp] theorem makeRoom_frame (s : State) :
    (makeRoom s).ptk = s.ptk ∧ (makeRoom s).cfg = s.cfg ∧ (makeRoom s).ifq = s.ifq ∧ (makeRoom s).heads = s.heads ∧
    (makeRoom s).valves = s.valves ∧ (makeRoom s).spu = s.spu ∧ (makeRoom s).scu = s.scu ∧
    (makeRoom s).address = s.address ∧ (makeRoom s).pins = s.pins ∧ (makeRoom s).pending = s.pending := by
  unfold makeRoom
  try dsimp only
  (repeat' split) <;> simp

@[simp] theorem joinOutfeed_frame (s : State) (j : Jar) :
    (joinOutfeed j s).ptk = s.ptk ∧ (joinOutfeed j s).cfg = s.cfg ∧ (joinOutfeed j s).ifq = s.ifq ∧
    (joinOutfeed j s).heads = s.heads ∧ (joinOutfeed j s).valves = s.valves ∧ (joinOutfeed j s).spu = s.spu ∧
    (joinOutfeed j s).scu = s.scu ∧ (joinOutfeed j s).address = s.address ∧ (joinOutfeed j s).pins = s.pins ∧
    (joinOutfeed j s).pending = s.pending := by
  simp [joinOutfeed]

@[simp] theorem matchMeasurement_frame (s : State) (x : List Int) :
    (matchMeasurement x s).ptk = s.ptk ∧ (matchMeasurement x s).cfg = s.cfg ∧ (matchMeasurement x s).ifq = s.ifq ∧
    (matchMeasurement x s).heads = s.heads ∧ (matchMeasurement x s).valves = s.valves ∧
    (matchMeasurement x s).spu = s.spu ∧ (matchMeasurement x s).scu = s.scu ∧
    (matchMeasurement x s).address = s.address ∧ (matchMeasurement x s).pins = s.pins ∧
    (matchMeasurement x s).pending = s.pending := by
  unfold matchMeasurement
  try dsimp only
  (repeat' split) <;> simp

@[simp] theorem completeMeasurement_frame (s : State) (x : List Int) (n : Nat) :
    (completeMeasurement x n s).ptk = s.ptk ∧ (completeMeasurement x n s).cfg = s.cfg ∧
    (completeMeasurement x n s).ifq = s.ifq ∧ (completeMeasurement x n s).heads = s.heads ∧
    (completeMeasurement x n s).valves = s.valves ∧ (completeMeasurement x n s).spu = s.spu ∧
    (completeMeasurement x n s).scu = s.scu ∧ (completeMeasurement x n s).address = s.address ∧
    (completeMeasurement x n s).pins = s.pins ∧ (completeMeasurement x n s).pending = s.pending := by
  unfold completeMeasurement
  try dsimp only
  (repeat' split) <;> simp

@[simp] theorem windowSample_frame (s : State) (v : Int) (c : Bool) :
    (windowSample v c s).ptk = s.ptk ∧ (windowSample v c s).cfg = s.cfg ∧ (windowSample v c s).ifq = s.ifq ∧
    (windowSample v c s).heads = s.heads ∧ (windowSample v c s).valves = s.valves ∧
    (windowSample v c s).spu = s.spu ∧ (windowSample v c s).address = s.address ∧
    (windowSample v c s).pins = s.pins ∧ (windowSample v c s).pending = s.pending := by
  unfold windowSample
  try dsimp only
  (repeat' split) <;> simp

@[simp] theorem takeSample_frame (s : State) (v : Int) :
    (takeSample v s).ptk = s.ptk ∧ (takeSample v s).cfg = s.cfg ∧ (takeSample v s).ifq = s.ifq ∧
    (takeSample v s).heads = s.heads ∧ (takeSample v s).valves = s.valves ∧ (takeSample v s).spu = s.spu ∧
    (takeSample v s).address = s.address ∧ (takeSample v s).pins = s.pins ∧ (takeSample v s).pending = s.pending := by
  simp [takeSample]

end Sys2Proof.Machine
end

