-- ==== Sys2Proof/Laws/FrameCycle.lean ====
section
/-! SUPPORT. The blocks that each operation of the Infeed Queue, the closure cycle and the exit leaves unchanged. -/

namespace Sys2Proof.Machine

@[simp] theorem setPitch_frame (s : State) (p : Word) :
    (setPitch p s).cfg = s.cfg ∧ (setPitch p s).heads = s.heads ∧ (setPitch p s).valves = s.valves ∧
    (setPitch p s).spu = s.spu ∧ (setPitch p s).rcs = s.rcs ∧ (setPitch p s).ofl = s.ofl ∧
    (setPitch p s).scu = s.scu ∧ (setPitch p s).dsu = s.dsu ∧ (setPitch p s).lif = s.lif ∧
    (setPitch p s).flt = s.flt ∧ (setPitch p s).address = s.address ∧ (setPitch p s).pins = s.pins ∧
    (setPitch p s).pending = s.pending := by
  simp [setPitch]

@[simp] theorem purgeBehind_frame (s : State) :
    (purgeBehind s).ptk = s.ptk ∧ (purgeBehind s).cfg = s.cfg ∧ (purgeBehind s).heads = s.heads ∧
    (purgeBehind s).valves = s.valves ∧ (purgeBehind s).spu = s.spu ∧ (purgeBehind s).rcs = s.rcs ∧
    (purgeBehind s).ofl = s.ofl ∧ (purgeBehind s).scu = s.scu ∧ (purgeBehind s).dsu = s.dsu ∧
    (purgeBehind s).lif = s.lif ∧ (purgeBehind s).address = s.address ∧ (purgeBehind s).pins = s.pins ∧
    (purgeBehind s).pending = s.pending := by
  unfold purgeBehind
  refine ⟨?_, ?_, ?_, ?_, ?_, ?_, ?_, ?_, ?_, ?_, ?_, ?_, ?_⟩ <;> exact (foldl_keeps _ _ (by intros; simp) _ _).trans (by simp)

@[simp] theorem beginLoad_frame (s : State) (k : Fin 12) :
    (beginLoad k s).ptk = s.ptk ∧ (beginLoad k s).cfg = s.cfg ∧ (beginLoad k s).ifq = s.ifq ∧
    (beginLoad k s).rcs = s.rcs ∧ (beginLoad k s).ofl = s.ofl ∧ (beginLoad k s).scu = s.scu ∧
    (beginLoad k s).dsu = s.dsu ∧ (beginLoad k s).lif = s.lif ∧ (beginLoad k s).flt = s.flt ∧
    (beginLoad k s).address = s.address ∧ (beginLoad k s).pins = s.pins ∧ (beginLoad k s).pending = s.pending := by
  simp [beginLoad]

@[simp] theorem loadNothing_frame (s : State) (k : Fin 12) :
    (loadNothing k s).ptk = s.ptk ∧ (loadNothing k s).cfg = s.cfg ∧ (loadNothing k s).ifq = s.ifq ∧
    (loadNothing k s).rcs = s.rcs ∧ (loadNothing k s).ofl = s.ofl ∧ (loadNothing k s).scu = s.scu ∧
    (loadNothing k s).dsu = s.dsu ∧ (loadNothing k s).lif = s.lif ∧ (loadNothing k s).flt = s.flt ∧
    (loadNothing k s).address = s.address ∧ (loadNothing k s).pins = s.pins ∧ (loadNothing k s).pending = s.pending := by
  simp [loadNothing]

@[simp] theorem loadUntracked_frame (s : State) (k : Fin 12) (r : JarRecord) :
    (loadUntracked k r s).ptk = s.ptk ∧ (loadUntracked k r s).cfg = s.cfg ∧ (loadUntracked k r s).ifq = s.ifq ∧
    (loadUntracked k r s).rcs = s.rcs ∧ (loadUntracked k r s).ofl = s.ofl ∧ (loadUntracked k r s).scu = s.scu ∧
    (loadUntracked k r s).dsu = s.dsu ∧ (loadUntracked k r s).lif = s.lif ∧ (loadUntracked k r s).flt = s.flt ∧
    (loadUntracked k r s).address = s.address ∧ (loadUntracked k r s).pins = s.pins ∧
    (loadUntracked k r s).pending = s.pending := by
  simp [loadUntracked]

@[simp] theorem loadTracked_frame (s : State) (k : Fin 12) (r : JarRecord) :
    (loadTracked k r s).ptk = s.ptk ∧ (loadTracked k r s).cfg = s.cfg ∧ (loadTracked k r s).ifq = s.ifq ∧
    (loadTracked k r s).ofl = s.ofl ∧ (loadTracked k r s).scu = s.scu ∧ (loadTracked k r s).dsu = s.dsu ∧
    (loadTracked k r s).lif = s.lif ∧ (loadTracked k r s).address = s.address ∧ (loadTracked k r s).pins = s.pins ∧
    (loadTracked k r s).pending = s.pending := by
  unfold loadTracked
  try dsimp only
  (repeat' split) <;> simp

@[simp] theorem serveInfeed_frame (s : State) (k : Fin 12) :
    (serveInfeed k s).ptk = s.ptk ∧ (serveInfeed k s).cfg = s.cfg ∧ (serveInfeed k s).ofl = s.ofl ∧
    (serveInfeed k s).scu = s.scu ∧ (serveInfeed k s).dsu = s.dsu ∧ (serveInfeed k s).lif = s.lif ∧
    (serveInfeed k s).address = s.address ∧ (serveInfeed k s).pins = s.pins ∧ (serveInfeed k s).pending = s.pending := by
  unfold serveInfeed
  try dsimp only
  (repeat' split) <;> simp

@[simp] theorem settleHead_frame (s : State) (k : Fin 12) (j : Jar) (c : Closure) :
    (settleHead k j c s).ptk = s.ptk ∧ (settleHead k j c s).cfg = s.cfg ∧ (settleHead k j c s).ifq = s.ifq ∧
    (settleHead k j c s).valves = s.valves ∧ (settleHead k j c s).spu = s.spu ∧ (settleHead k j c s).rcs = s.rcs ∧
    (settleHead k j c s).ofl = s.ofl ∧ (settleHead k j c s).scu = s.scu ∧ (settleHead k j c s).dsu = s.dsu ∧
    (settleHead k j c s).lif = s.lif ∧ (settleHead k j c s).flt = s.flt ∧ (settleHead k j c s).address = s.address ∧
    (settleHead k j c s).pins = s.pins ∧ (settleHead k j c s).pending = s.pending := by
  simp [settleHead]

@[simp] theorem openPoint_frame (s : State) (k : Fin 12) :
    (openPoint k s).ptk = s.ptk ∧ (openPoint k s).cfg = s.cfg ∧ (openPoint k s).ifq = s.ifq ∧
    (openPoint k s).spu = s.spu ∧ (openPoint k s).rcs = s.rcs ∧ (openPoint k s).ofl = s.ofl ∧
    (openPoint k s).scu = s.scu ∧ (openPoint k s).dsu = s.dsu ∧ (openPoint k s).lif = s.lif ∧
    (openPoint k s).flt = s.flt ∧ (openPoint k s).address = s.address ∧ (openPoint k s).pins = s.pins ∧
    (openPoint k s).pending = s.pending := by
  unfold openPoint
  try dsimp only
  (repeat' split) <;> simp

@[simp] theorem closePoint_frame (s : State) (k : Fin 12) :
    (closePoint k s).ptk = s.ptk ∧ (closePoint k s).cfg = s.cfg ∧ (closePoint k s).ifq = s.ifq ∧
    (closePoint k s).spu = s.spu ∧ (closePoint k s).rcs = s.rcs ∧ (closePoint k s).ofl = s.ofl ∧
    (closePoint k s).scu = s.scu ∧ (closePoint k s).dsu = s.dsu ∧ (closePoint k s).lif = s.lif ∧
    (closePoint k s).flt = s.flt ∧ (closePoint k s).address = s.address ∧ (closePoint k s).pins = s.pins ∧
    (closePoint k s).pending = s.pending := by
  unfold closePoint
  try dsimp only
  (repeat' split) <;> simp

@[simp] theorem applyPoint_frame (s : State) (k : Fin 12) :
    (applyPoint k s).ptk = s.ptk ∧ (applyPoint k s).cfg = s.cfg ∧ (applyPoint k s).ifq = s.ifq ∧
    (applyPoint k s).valves = s.valves ∧ (applyPoint k s).spu = s.spu ∧ (applyPoint k s).rcs = s.rcs ∧
    (applyPoint k s).ofl = s.ofl ∧ (applyPoint k s).scu = s.scu ∧ (applyPoint k s).dsu = s.dsu ∧
    (applyPoint k s).lif = s.lif ∧ (applyPoint k s).address = s.address ∧ (applyPoint k s).pins = s.pins ∧
    (applyPoint k s).pending = s.pending := by
  unfold applyPoint
  try dsimp only
  (repeat' split) <;> simp

@[simp] theorem torqueStartPoint_frame (s : State) (k : Fin 12) :
    (torqueStartPoint k s).ptk = s.ptk ∧ (torqueStartPoint k s).cfg = s.cfg ∧ (torqueStartPoint k s).ifq = s.ifq ∧
    (torqueStartPoint k s).valves = s.valves ∧ (torqueStartPoint k s).rcs = s.rcs ∧
    (torqueStartPoint k s).ofl = s.ofl ∧ (torqueStartPoint k s).scu = s.scu ∧ (torqueStartPoint k s).dsu = s.dsu ∧
    (torqueStartPoint k s).lif = s.lif ∧ (torqueStartPoint k s).flt = s.flt ∧
    (torqueStartPoint k s).address = s.address ∧ (torqueStartPoint k s).pins = s.pins ∧
    (torqueStartPoint k s).pending = s.pending := by
  unfold torqueStartPoint
  try dsimp only
  (repeat' split) <;> simp

@[simp] theorem torqueEndPoint_frame (s : State) (k : Fin 12) :
    (torqueEndPoint k s).ptk = s.ptk ∧ (torqueEndPoint k s).cfg = s.cfg ∧ (torqueEndPoint k s).ifq = s.ifq ∧
    (torqueEndPoint k s).valves = s.valves ∧ (torqueEndPoint k s).spu = s.spu ∧ (torqueEndPoint k s).rcs = s.rcs ∧
    (torqueEndPoint k s).ofl = s.ofl ∧ (torqueEndPoint k s).scu = s.scu ∧ (torqueEndPoint k s).dsu = s.dsu ∧
    (torqueEndPoint k s).lif = s.lif ∧ (torqueEndPoint k s).flt = s.flt ∧ (torqueEndPoint k s).address = s.address ∧
    (torqueEndPoint k s).pins = s.pins ∧ (torqueEndPoint k s).pending = s.pending := by
  unfold torqueEndPoint
  try dsimp only
  (repeat' split) <;> simp

@[simp] theorem headTransitions_frame (s : State) (k : Fin 12) :
    (headTransitions k s).ptk = s.ptk ∧ (headTransitions k s).cfg = s.cfg ∧ (headTransitions k s).ifq = s.ifq ∧
    (headTransitions k s).rcs = s.rcs ∧ (headTransitions k s).ofl = s.ofl ∧ (headTransitions k s).scu = s.scu ∧
    (headTransitions k s).dsu = s.dsu ∧ (headTransitions k s).lif = s.lif ∧
    (headTransitions k s).address = s.address ∧ (headTransitions k s).pins = s.pins ∧
    (headTransitions k s).pending = s.pending := by
  simp [headTransitions]

@[simp] theorem clearPitchHolds_frame (s : State) :
    (clearPitchHolds s).ptk = s.ptk ∧ (clearPitchHolds s).cfg = s.cfg ∧ (clearPitchHolds s).ifq = s.ifq ∧
    (clearPitchHolds s).heads = s.heads ∧ (clearPitchHolds s).valves = s.valves ∧ (clearPitchHolds s).rcs = s.rcs ∧
    (clearPitchHolds s).ofl = s.ofl ∧ (clearPitchHolds s).scu = s.scu ∧ (clearPitchHolds s).dsu = s.dsu ∧
    (clearPitchHolds s).lif = s.lif ∧ (clearPitchHolds s).flt = s.flt ∧ (clearPitchHolds s).address = s.address ∧
    (clearPitchHolds s).pins = s.pins ∧ (clearPitchHolds s).pending = s.pending := by
  unfold clearPitchHolds
  refine ⟨?_, ?_, ?_, ?_, ?_, ?_, ?_, ?_, ?_, ?_, ?_, ?_, ?_, ?_⟩ <;> exact (foldl_keeps _ _ (by intros; simp) _ _).trans (by simp)

@[simp] theorem vacate_frame (s : State) (k : Fin 12) :
    (vacate k s).ptk = s.ptk ∧ (vacate k s).cfg = s.cfg ∧ (vacate k s).ifq = s.ifq ∧ (vacate k s).rcs = s.rcs ∧
    (vacate k s).ofl = s.ofl ∧ (vacate k s).scu = s.scu ∧ (vacate k s).dsu = s.dsu ∧ (vacate k s).lif = s.lif ∧
    (vacate k s).flt = s.flt ∧ (vacate k s).address = s.address ∧ (vacate k s).pins = s.pins ∧
    (vacate k s).pending = s.pending := by
  simp [vacate]

@[simp] theorem serveExit_frame (s : State) (k : Fin 12) :
    (serveExit k s).ptk = s.ptk ∧ (serveExit k s).cfg = s.cfg ∧ (serveExit k s).ifq = s.ifq ∧
    (serveExit k s).scu = s.scu ∧ (serveExit k s).address = s.address ∧ (serveExit k s).pins = s.pins ∧
    (serveExit k s).pending = s.pending := by
  unfold serveExit
  try dsimp only
  (repeat' split) <;> simp

@[simp] theorem outOfServiceReport_frame (s : State) (k : Fin 12) :
    (outOfServiceReport k s).ptk = s.ptk ∧ (outOfServiceReport k s).cfg = s.cfg ∧
    (outOfServiceReport k s).ifq = s.ifq ∧ (outOfServiceReport k s).rcs = s.rcs ∧
    (outOfServiceReport k s).ofl = s.ofl ∧ (outOfServiceReport k s).scu = s.scu ∧
    (outOfServiceReport k s).dsu = s.dsu ∧ (outOfServiceReport k s).lif = s.lif ∧
    (outOfServiceReport k s).flt = s.flt ∧ (outOfServiceReport k s).address = s.address ∧
    (outOfServiceReport k s).pins = s.pins ∧ (outOfServiceReport k s).pending = s.pending := by
  simp [outOfServiceReport]

end Sys2Proof.Machine
end

