-- ==== Sys2Proof/Laws/FrameFlush.lean ====
section
/-! SUPPORT. The blocks that each operation of the flush tick leaves unchanged. -/

namespace Sys2Proof.Machine

@[simp] theorem flushHead_frame (s : State) (k : Fin 12) :
    (flushHead k s).ptk = s.ptk ∧ (flushHead k s).cfg = s.cfg ∧ (flushHead k s).ifq = s.ifq ∧
    (flushHead k s).spu = s.spu ∧ (flushHead k s).rcs = s.rcs ∧ (flushHead k s).ofl = s.ofl ∧
    (flushHead k s).scu = s.scu ∧ (flushHead k s).dsu = s.dsu ∧ (flushHead k s).lif = s.lif ∧
    (flushHead k s).flt = s.flt ∧ (flushHead k s).address = s.address ∧ (flushHead k s).pins = s.pins ∧
    (flushHead k s).pending = s.pending := by
  unfold flushHead
  try dsimp only
  (repeat' split) <;> simp

@[simp] theorem flushTick_frame (s : State) :
    (flushTick s).ptk = s.ptk ∧ (flushTick s).cfg = s.cfg ∧ (flushTick s).ifq = s.ifq ∧ (flushTick s).spu = s.spu ∧
    (flushTick s).rcs = s.rcs ∧ (flushTick s).ofl = s.ofl ∧ (flushTick s).scu = s.scu ∧ (flushTick s).dsu = s.dsu ∧
    (flushTick s).lif = s.lif ∧ (flushTick s).address = s.address ∧ (flushTick s).pins = s.pins ∧
    (flushTick s).pending = s.pending := by
  unfold flushTick
  split
  · refine ⟨?_, ?_, ?_, ?_, ?_, ?_, ?_, ?_, ?_, ?_, ?_, ?_⟩ <;> exact foldl_keeps _ _ (by intros; simp) _ _
  · split <;> simp

end Sys2Proof.Machine
end

