-- ==== Sys2Proof/Laws/FrameHeadBus.lean ====
section
/-! SUPPORT. The slots of the head bus cycle, and the blocks that each operation of the head bus leaves unchanged. -/

namespace Sys2Proof.Machine

/-! ### The slots of the cycle -/

@[simp] theorem beginSlot_position (u : Spu) (n : Nat) : (u.beginSlot n).position = n := rfl
@[simp] theorem beginSlot_slotEnded (u : Spu) (n : Nat) : (u.beginSlot n).slotEnded = false := rfl
@[simp] theorem beginSlot_heads (u : Spu) (n : Nat) : (u.beginSlot n).heads = u.heads := rfl

theorem due_iff (u : Spu) (n : Nat) :
    u.due n = true ↔ n = (u.position + 1) % 13 ∧ (u.position = 0 ∨ u.slotEnded = true) := by
  simp [Spu.due]

theorem inSlot_iff (u : Spu) (k : Fin 12) : u.inSlot k = true ↔ u.position = k.val + 1 ∧ u.slotEnded = false := by
  simp [Spu.inSlot]

@[simp] theorem endSlot_spindle (s : State) (k : Fin 12) : (endSlot s).spindle k = s.spindle k := rfl
@[simp] theorem endSlot_head (s : State) (k : Fin 12) : (endSlot s).head k = s.head k := rfl
@[simp] theorem endSlot_spu (s : State) : (endSlot s).spu = { s.spu with slotEnded := true } := rfl
@[simp] theorem endSlot_rcs (s : State) : (endSlot s).rcs = s.rcs := rfl
@[simp] theorem endSlot_flt (s : State) : (endSlot s).flt = s.flt := rfl
@[simp] theorem endSlot_ptk (s : State) : (endSlot s).ptk = s.ptk := rfl

/-- The slot of a head that has begun is in progress. -/
@[simp] theorem startSlot_inSlot (s : State) (k : Fin 12) : (startSlot k s).spu.inSlot k = true := by
  simp [startSlot, Spu.inSlot, State.setSpindle]

/-- A slot whose arrival has been taken is in progress for no head: it arrives once in its cycle (R69). -/
@[simp] theorem endSlot_not_inSlot (s : State) (k : Fin 12) : (endSlot s).spu.inSlot k = false := by
  simp [Spu.inSlot]

/-- After the arrival of a head's slot the slot that follows it is due, and no other (R69). -/
theorem endSlot_due (s : State) (n : Nat) : (endSlot s).spu.due n = (n == (s.spu.position + 1) % 13) := by
  simp [Spu.due]

/-! ### Replies and missed samples -/

@[simp] theorem settleBySpindle_frame (s : State) (k : Fin 12) (j : Jar) (c : Closure) (a : Nat) :
    (settleBySpindle k j c a s).ptk = s.ptk ∧ (settleBySpindle k j c a s).cfg = s.cfg ∧
    (settleBySpindle k j c a s).ifq = s.ifq ∧ (settleBySpindle k j c a s).valves = s.valves ∧
    (settleBySpindle k j c a s).spu = s.spu ∧ (settleBySpindle k j c a s).rcs = s.rcs ∧
    (settleBySpindle k j c a s).ofl = s.ofl ∧ (settleBySpindle k j c a s).scu = s.scu ∧
    (settleBySpindle k j c a s).dsu = s.dsu ∧ (settleBySpindle k j c a s).lif = s.lif ∧
    (settleBySpindle k j c a s).flt = s.flt ∧ (settleBySpindle k j c a s).address = s.address ∧
    (settleBySpindle k j c a s).pins = s.pins ∧ (settleBySpindle k j c a s).pending = s.pending := by
  simp [settleBySpindle]

@[simp] theorem judgeReply_frame (s : State) (k : Fin 12) (j : Jar) (t a : Nat) :
    (judgeReply k j t a s).ptk = s.ptk ∧ (judgeReply k j t a s).cfg = s.cfg ∧ (judgeReply k j t a s).ifq = s.ifq ∧
    (judgeReply k j t a s).valves = s.valves ∧ (judgeReply k j t a s).rcs = s.rcs ∧
    (judgeReply k j t a s).ofl = s.ofl ∧ (judgeReply k j t a s).scu = s.scu ∧ (judgeReply k j t a s).dsu = s.dsu ∧
    (judgeReply k j t a s).lif = s.lif ∧ (judgeReply k j t a s).flt = s.flt ∧
    (judgeReply k j t a s).address = s.address ∧ (judgeReply k j t a s).pins = s.pins ∧
    (judgeReply k j t a s).pending = s.pending := by
  unfold judgeReply
  try dsimp only
  (repeat' split) <;> simp

@[simp] theorem takeOkReply_frame (s : State) (k : Fin 12) (t a : Nat) :
    (takeOkReply k t a s).ptk = s.ptk ∧ (takeOkReply k t a s).cfg = s.cfg ∧ (takeOkReply k t a s).ifq = s.ifq ∧
    (takeOkReply k t a s).valves = s.valves ∧ (takeOkReply k t a s).rcs = s.rcs ∧
    (takeOkReply k t a s).ofl = s.ofl ∧ (takeOkReply k t a s).scu = s.scu ∧ (takeOkReply k t a s).dsu = s.dsu ∧
    (takeOkReply k t a s).lif = s.lif ∧ (takeOkReply k t a s).flt = s.flt ∧
    (takeOkReply k t a s).address = s.address ∧ (takeOkReply k t a s).pins = s.pins ∧
    (takeOkReply k t a s).pending = s.pending := by
  unfold takeOkReply
  try dsimp only
  (repeat' split) <;> simp

@[simp] theorem takeFaultReply_frame (s : State) (k : Fin 12) :
    (takeFaultReply k s).ptk = s.ptk ∧ (takeFaultReply k s).cfg = s.cfg ∧ (takeFaultReply k s).ifq = s.ifq ∧
    (takeFaultReply k s).rcs = s.rcs ∧ (takeFaultReply k s).ofl = s.ofl ∧ (takeFaultReply k s).scu = s.scu ∧
    (takeFaultReply k s).dsu = s.dsu ∧ (takeFaultReply k s).lif = s.lif ∧ (takeFaultReply k s).address = s.address ∧
    (takeFaultReply k s).pins = s.pins ∧ (takeFaultReply k s).pending = s.pending := by
  simp [takeFaultReply]

@[simp] theorem takeMiss_frame (s : State) (k : Fin 12) :
    (takeMiss k s).ptk = s.ptk ∧ (takeMiss k s).cfg = s.cfg ∧ (takeMiss k s).ifq = s.ifq ∧
    (takeMiss k s).rcs = s.rcs ∧ (takeMiss k s).ofl = s.ofl ∧ (takeMiss k s).scu = s.scu ∧
    (takeMiss k s).dsu = s.dsu ∧ (takeMiss k s).lif = s.lif ∧ (takeMiss k s).address = s.address ∧
    (takeMiss k s).pins = s.pins ∧ (takeMiss k s).pending = s.pending := by
  unfold takeMiss
  try dsimp only
  (repeat' split) <;> simp

@[simp] theorem takeSlot_frame (s : State) (k : Fin 12) (x : SlotOutcome) :
    (takeSlot k x s).ptk = s.ptk ∧ (takeSlot k x s).cfg = s.cfg ∧ (takeSlot k x s).ifq = s.ifq ∧
    (takeSlot k x s).rcs = s.rcs ∧ (takeSlot k x s).ofl = s.ofl ∧ (takeSlot k x s).scu = s.scu ∧
    (takeSlot k x s).dsu = s.dsu ∧ (takeSlot k x s).lif = s.lif ∧ (takeSlot k x s).address = s.address ∧
    (takeSlot k x s).pins = s.pins ∧ (takeSlot k x s).pending = s.pending := by
  unfold takeSlot
  try dsimp only
  (repeat' split) <;> simp

/-! ### The cycle through a slot's arrival -/

@[simp] theorem setHead_slotEnded (s : State) (k : Fin 12) (h : Head) :
    (s.setHead k h).spu.slotEnded = s.spu.slotEnded := rfl

theorem judgeReply_cycle (s : State) (k : Fin 12) (j : Jar) (t a : Nat) :
    (judgeReply k j t a s).spu.position = s.spu.position ∧ (judgeReply k j t a s).spu.slotEnded = s.spu.slotEnded := by
  unfold judgeReply
  dsimp only
  (repeat' split) <;> simp

theorem outOfServiceReport_cycle (s : State) (k : Fin 12) :
    (outOfServiceReport k s).spu.position = s.spu.position ∧
    (outOfServiceReport k s).spu.slotEnded = s.spu.slotEnded := by
  simp [outOfServiceReport]

/-- What a slot brings moves neither the cycle position nor the end of the slot (R69, R72). -/
theorem takeSlot_cycle (s : State) (k : Fin 12) (x : SlotOutcome) :
    (takeSlot k x s).spu.position = s.spu.position ∧ (takeSlot k x s).spu.slotEnded = s.spu.slotEnded := by
  cases x with
  | okReply t a =>
    simp only [takeSlot, takeOkReply]
    (repeat' split) <;> simp [judgeReply_cycle]
  | faultReply => simp [takeSlot, takeFaultReply, outOfServiceReport_cycle, State.raise]
  | missed =>
    simp only [takeSlot, takeMiss]
    (repeat' split) <;> simp [outOfServiceReport_cycle, State.raise]

end Sys2Proof.Machine
end

