-- ==== Sys2Proof/Laws/FrameRequests.lean ====
section
/-! SUPPORT. The blocks that each operation of the requests and the warm reset leaves unchanged. -/

namespace Sys2Proof.Machine

@[simp] theorem storeTable_frame (s : State) (t : Table) (i : Nat) (ws : List Word) :
    (storeTable t i ws s).ifq = s.ifq ∧ (storeTable t i ws s).heads = s.heads ∧
    (storeTable t i ws s).valves = s.valves ∧ (storeTable t i ws s).spu = s.spu ∧
    (storeTable t i ws s).ofl = s.ofl ∧ (storeTable t i ws s).scu = s.scu ∧ (storeTable t i ws s).dsu = s.dsu ∧
    (storeTable t i ws s).lif = s.lif ∧ (storeTable t i ws s).flt = s.flt ∧
    (storeTable t i ws s).address = s.address ∧ (storeTable t i ws s).pins = s.pins ∧
    (storeTable t i ws s).pending = s.pending := by
  unfold storeTable
  try dsimp only
  (repeat' split) <;> simp

@[simp] theorem requestStatus_frame (s : State) (tag : Byte) :
    (requestStatus tag s).ptk = s.ptk ∧ (requestStatus tag s).cfg = s.cfg ∧ (requestStatus tag s).ifq = s.ifq ∧
    (requestStatus tag s).heads = s.heads ∧ (requestStatus tag s).valves = s.valves ∧
    (requestStatus tag s).spu = s.spu ∧ (requestStatus tag s).rcs = s.rcs ∧ (requestStatus tag s).ofl = s.ofl ∧
    (requestStatus tag s).scu = s.scu ∧ (requestStatus tag s).dsu = s.dsu ∧ (requestStatus tag s).flt = s.flt ∧
    (requestStatus tag s).address = s.address ∧ (requestStatus tag s).pins = s.pins ∧
    (requestStatus tag s).pending = s.pending := by
  simp [requestStatus]

@[simp] theorem requestFaults_frame (s : State) (tag : Byte) :
    (requestFaults tag s).ptk = s.ptk ∧ (requestFaults tag s).cfg = s.cfg ∧ (requestFaults tag s).ifq = s.ifq ∧
    (requestFaults tag s).heads = s.heads ∧ (requestFaults tag s).valves = s.valves ∧
    (requestFaults tag s).spu = s.spu ∧ (requestFaults tag s).rcs = s.rcs ∧ (requestFaults tag s).ofl = s.ofl ∧
    (requestFaults tag s).scu = s.scu ∧ (requestFaults tag s).dsu = s.dsu ∧ (requestFaults tag s).flt = s.flt ∧
    (requestFaults tag s).address = s.address ∧ (requestFaults tag s).pins = s.pins ∧
    (requestFaults tag s).pending = s.pending := by
  simp [requestFaults]

@[simp] theorem requestClearFault_frame (s : State) (tag c : Byte) :
    (requestClearFault tag c s).ptk = s.ptk ∧ (requestClearFault tag c s).cfg = s.cfg ∧
    (requestClearFault tag c s).ifq = s.ifq ∧ (requestClearFault tag c s).heads = s.heads ∧
    (requestClearFault tag c s).valves = s.valves ∧ (requestClearFault tag c s).spu = s.spu ∧
    (requestClearFault tag c s).rcs = s.rcs ∧ (requestClearFault tag c s).ofl = s.ofl ∧
    (requestClearFault tag c s).scu = s.scu ∧ (requestClearFault tag c s).dsu = s.dsu ∧
    (requestClearFault tag c s).address = s.address ∧ (requestClearFault tag c s).pins = s.pins ∧
    (requestClearFault tag c s).pending = s.pending := by
  unfold requestClearFault
  try dsimp only
  (repeat' split) <;> simp

@[simp] theorem requestCursor_frame (s : State) (tag w t : Byte) (i : Word) :
    (requestCursor tag w t i s).ptk = s.ptk ∧ (requestCursor tag w t i s).cfg = s.cfg ∧
    (requestCursor tag w t i s).ifq = s.ifq ∧ (requestCursor tag w t i s).heads = s.heads ∧
    (requestCursor tag w t i s).valves = s.valves ∧ (requestCursor tag w t i s).spu = s.spu ∧
    (requestCursor tag w t i s).ofl = s.ofl ∧ (requestCursor tag w t i s).scu = s.scu ∧
    (requestCursor tag w t i s).dsu = s.dsu ∧ (requestCursor tag w t i s).flt = s.flt ∧
    (requestCursor tag w t i s).address = s.address ∧ (requestCursor tag w t i s).pins = s.pins ∧
    (requestCursor tag w t i s).pending = s.pending := by
  unfold requestCursor
  try dsimp only
  (repeat' split) <;> simp

@[simp] theorem requestWrite_frame (s : State) (tag n : Byte) (ws : List Word) :
    (requestWrite tag n ws s).ifq = s.ifq ∧ (requestWrite tag n ws s).heads = s.heads ∧
    (requestWrite tag n ws s).valves = s.valves ∧ (requestWrite tag n ws s).spu = s.spu ∧
    (requestWrite tag n ws s).ofl = s.ofl ∧ (requestWrite tag n ws s).scu = s.scu ∧
    (requestWrite tag n ws s).dsu = s.dsu ∧ (requestWrite tag n ws s).flt = s.flt ∧
    (requestWrite tag n ws s).address = s.address ∧ (requestWrite tag n ws s).pins = s.pins ∧
    (requestWrite tag n ws s).pending = s.pending := by
  unfold requestWrite
  try dsimp only
  (repeat' split) <;> simp

@[simp] theorem requestRead_frame (s : State) (tag n : Byte) :
    (requestRead tag n s).ptk = s.ptk ∧ (requestRead tag n s).cfg = s.cfg ∧ (requestRead tag n s).ifq = s.ifq ∧
    (requestRead tag n s).heads = s.heads ∧ (requestRead tag n s).valves = s.valves ∧
    (requestRead tag n s).spu = s.spu ∧ (requestRead tag n s).ofl = s.ofl ∧ (requestRead tag n s).scu = s.scu ∧
    (requestRead tag n s).dsu = s.dsu ∧ (requestRead tag n s).flt = s.flt ∧
    (requestRead tag n s).address = s.address ∧ (requestRead tag n s).pins = s.pins ∧
    (requestRead tag n s).pending = s.pending := by
  unfold requestRead
  try dsimp only
  (repeat' split) <;> simp

@[simp] theorem requestCommit_frame (s : State) (tag : Byte) (x : Word) :
    (requestCommit tag x s).ptk = s.ptk ∧ (requestCommit tag x s).cfg = s.cfg ∧
    (requestCommit tag x s).ifq = s.ifq ∧ (requestCommit tag x s).heads = s.heads ∧
    (requestCommit tag x s).valves = s.valves ∧ (requestCommit tag x s).spu = s.spu ∧
    (requestCommit tag x s).ofl = s.ofl ∧ (requestCommit tag x s).scu = s.scu ∧
    (requestCommit tag x s).dsu = s.dsu ∧ (requestCommit tag x s).flt = s.flt ∧
    (requestCommit tag x s).address = s.address ∧ (requestCommit tag x s).pins = s.pins ∧
    (requestCommit tag x s).pending = s.pending := by
  unfold requestCommit
  try dsimp only
  (repeat' split) <;> simp

@[simp] theorem requestHeadService_frame (s : State) (tag h v : Byte) :
    (requestHeadService tag h v s).ptk = s.ptk ∧ (requestHeadService tag h v s).cfg = s.cfg ∧
    (requestHeadService tag h v s).ifq = s.ifq ∧ (requestHeadService tag h v s).valves = s.valves ∧
    (requestHeadService tag h v s).spu = s.spu ∧ (requestHeadService tag h v s).rcs = s.rcs ∧
    (requestHeadService tag h v s).ofl = s.ofl ∧ (requestHeadService tag h v s).scu = s.scu ∧
    (requestHeadService tag h v s).dsu = s.dsu ∧ (requestHeadService tag h v s).flt = s.flt ∧
    (requestHeadService tag h v s).address = s.address ∧ (requestHeadService tag h v s).pins = s.pins ∧
    (requestHeadService tag h v s).pending = s.pending := by
  unfold requestHeadService
  try dsimp only
  (repeat' split) <;> simp

@[simp] theorem requestSeedAudit_frame (s : State) (tag : Byte) (v : Word) :
    (requestSeedAudit tag v s).ptk = s.ptk ∧ (requestSeedAudit tag v s).cfg = s.cfg ∧
    (requestSeedAudit tag v s).ifq = s.ifq ∧ (requestSeedAudit tag v s).heads = s.heads ∧
    (requestSeedAudit tag v s).valves = s.valves ∧ (requestSeedAudit tag v s).spu = s.spu ∧
    (requestSeedAudit tag v s).rcs = s.rcs ∧ (requestSeedAudit tag v s).ofl = s.ofl ∧
    (requestSeedAudit tag v s).scu = s.scu ∧ (requestSeedAudit tag v s).flt = s.flt ∧
    (requestSeedAudit tag v s).address = s.address ∧ (requestSeedAudit tag v s).pins = s.pins ∧
    (requestSeedAudit tag v s).pending = s.pending := by
  simp [requestSeedAudit]

@[simp] theorem requestClearTallies_frame (s : State) (tag : Byte) :
    (requestClearTallies tag s).ptk = s.ptk ∧ (requestClearTallies tag s).cfg = s.cfg ∧
    (requestClearTallies tag s).ifq = s.ifq ∧ (requestClearTallies tag s).heads = s.heads ∧
    (requestClearTallies tag s).valves = s.valves ∧ (requestClearTallies tag s).spu = s.spu ∧
    (requestClearTallies tag s).rcs = s.rcs ∧ (requestClearTallies tag s).ofl = s.ofl ∧
    (requestClearTallies tag s).scu = s.scu ∧ (requestClearTallies tag s).flt = s.flt ∧
    (requestClearTallies tag s).address = s.address ∧ (requestClearTallies tag s).pins = s.pins ∧
    (requestClearTallies tag s).pending = s.pending := by
  simp [requestClearTallies]

@[simp] theorem warmHeads_frame (s : State) :
    (warmHeads s).ptk = s.ptk ∧ (warmHeads s).cfg = s.cfg ∧ (warmHeads s).ifq = s.ifq ∧
    (warmHeads s).valves = s.valves ∧ (warmHeads s).spu = s.spu ∧ (warmHeads s).rcs = s.rcs ∧
    (warmHeads s).ofl = s.ofl ∧ (warmHeads s).scu = s.scu ∧ (warmHeads s).dsu = s.dsu ∧ (warmHeads s).lif = s.lif ∧
    (warmHeads s).flt = s.flt ∧ (warmHeads s).address = s.address ∧ (warmHeads s).pins = s.pins ∧
    (warmHeads s).pending = s.pending := by
  unfold warmHeads
  refine ⟨?_, ?_, ?_, ?_, ?_, ?_, ?_, ?_, ?_, ?_, ?_, ?_, ?_, ?_⟩ <;> exact (foldl_keeps _ _ (by intros; simp) _ _).trans (by simp)

@[simp] theorem warmReset_frame (s : State) :
    (warmReset s).cfg = s.cfg ∧ (warmReset s).address = s.address ∧ (warmReset s).pins = s.pins ∧
    (warmReset s).pending = s.pending := by
  simp [warmReset]

@[simp] theorem requestReset_frame (s : State) (tag : Byte) :
    (requestReset tag s).cfg = s.cfg ∧ (requestReset tag s).address = s.address ∧
    (requestReset tag s).pins = s.pins ∧ (requestReset tag s).pending = s.pending := by
  simp [requestReset]

@[simp] theorem runRequest_frame (s : State) (r : Request) :
    (runRequest r s).address = s.address ∧ (runRequest r s).pins = s.pins ∧ (runRequest r s).pending = s.pending := by
  unfold runRequest
  try dsimp only
  (repeat' split) <;> simp

@[simp] theorem takeRequest_frame (s : State) (p : List Byte) :
    (takeRequest p s).address = s.address ∧ (takeRequest p s).pins = s.pins ∧ (takeRequest p s).pending = s.pending := by
  simp [takeRequest]

end Sys2Proof.Machine
end

