-- ==== Sys2Proof/Laws/FrameLink.lean ====
section
/-! SUPPORT. The blocks that each operation of the receiver and dispatch leaves unchanged. -/

namespace Sys2Proof.Machine

@[simp] theorem notePassed_frame (s : State) :
    (notePassed s).ptk = s.ptk ∧ (notePassed s).cfg = s.cfg ∧ (notePassed s).ifq = s.ifq ∧
    (notePassed s).heads = s.heads ∧ (notePassed s).valves = s.valves ∧ (notePassed s).spu = s.spu ∧
    (notePassed s).rcs = s.rcs ∧ (notePassed s).ofl = s.ofl ∧ (notePassed s).scu = s.scu ∧
    (notePassed s).dsu = s.dsu ∧ (notePassed s).flt = s.flt ∧ (notePassed s).address = s.address ∧
    (notePassed s).pins = s.pins ∧ (notePassed s).pending = s.pending := by
  simp [notePassed]

@[simp] theorem noteDiscard_frame (s : State) (c : DiscardCause) :
    (noteDiscard c s).ptk = s.ptk ∧ (noteDiscard c s).cfg = s.cfg ∧ (noteDiscard c s).ifq = s.ifq ∧
    (noteDiscard c s).heads = s.heads ∧ (noteDiscard c s).valves = s.valves ∧ (noteDiscard c s).spu = s.spu ∧
    (noteDiscard c s).rcs = s.rcs ∧ (noteDiscard c s).ofl = s.ofl ∧ (noteDiscard c s).scu = s.scu ∧
    (noteDiscard c s).dsu = s.dsu ∧ (noteDiscard c s).address = s.address ∧ (noteDiscard c s).pins = s.pins ∧
    (noteDiscard c s).pending = s.pending := by
  unfold noteDiscard
  try dsimp only
  (repeat' split) <;> simp

@[simp] theorem queueRecord_frame (s : State) (r : JarRecord) :
    (queueRecord r s).ptk = s.ptk ∧ (queueRecord r s).cfg = s.cfg ∧ (queueRecord r s).heads = s.heads ∧
    (queueRecord r s).valves = s.valves ∧ (queueRecord r s).spu = s.spu ∧ (queueRecord r s).rcs = s.rcs ∧
    (queueRecord r s).ofl = s.ofl ∧ (queueRecord r s).scu = s.scu ∧ (queueRecord r s).dsu = s.dsu ∧
    (queueRecord r s).lif = s.lif ∧ (queueRecord r s).address = s.address ∧ (queueRecord r s).pins = s.pins ∧
    (queueRecord r s).pending = s.pending := by
  unfold queueRecord
  try dsimp only
  (repeat' split) <;> simp

@[simp] theorem recordArrival_frame (s : State) (r : JarRecord) :
    (recordArrival r s).ptk = s.ptk ∧ (recordArrival r s).cfg = s.cfg ∧ (recordArrival r s).heads = s.heads ∧
    (recordArrival r s).valves = s.valves ∧ (recordArrival r s).spu = s.spu ∧ (recordArrival r s).rcs = s.rcs ∧
    (recordArrival r s).ofl = s.ofl ∧ (recordArrival r s).scu = s.scu ∧ (recordArrival r s).dsu = s.dsu ∧
    (recordArrival r s).lif = s.lif ∧ (recordArrival r s).address = s.address ∧ (recordArrival r s).pins = s.pins ∧
    (recordArrival r s).pending = s.pending := by
  unfold recordArrival
  try dsimp only
  (repeat' split) <;> simp

@[simp] theorem jarFrameArrival_frame (s : State) (p : List Byte) :
    (jarFrameArrival p s).ptk = s.ptk ∧ (jarFrameArrival p s).cfg = s.cfg ∧ (jarFrameArrival p s).heads = s.heads ∧
    (jarFrameArrival p s).valves = s.valves ∧ (jarFrameArrival p s).spu = s.spu ∧
    (jarFrameArrival p s).rcs = s.rcs ∧ (jarFrameArrival p s).ofl = s.ofl ∧ (jarFrameArrival p s).scu = s.scu ∧
    (jarFrameArrival p s).dsu = s.dsu ∧ (jarFrameArrival p s).lif = s.lif ∧
    (jarFrameArrival p s).address = s.address ∧ (jarFrameArrival p s).pins = s.pins ∧
    (jarFrameArrival p s).pending = s.pending := by
  unfold jarFrameArrival
  try dsimp only
  (repeat' split) <;> simp

@[simp] theorem takeMasterPitch_frame (s : State) (m : Word) :
    (takeMasterPitch m s).cfg = s.cfg ∧ (takeMasterPitch m s).heads = s.heads ∧
    (takeMasterPitch m s).valves = s.valves ∧ (takeMasterPitch m s).spu = s.spu ∧
    (takeMasterPitch m s).rcs = s.rcs ∧ (takeMasterPitch m s).ofl = s.ofl ∧ (takeMasterPitch m s).scu = s.scu ∧
    (takeMasterPitch m s).dsu = s.dsu ∧ (takeMasterPitch m s).lif = s.lif ∧
    (takeMasterPitch m s).address = s.address ∧ (takeMasterPitch m s).pins = s.pins ∧
    (takeMasterPitch m s).pending = s.pending := by
  unfold takeMasterPitch
  try dsimp only
  (repeat' split) <;> simp

@[simp] theorem pitchFrameArrival_frame (s : State) (p : List Byte) :
    (pitchFrameArrival p s).cfg = s.cfg ∧ (pitchFrameArrival p s).heads = s.heads ∧
    (pitchFrameArrival p s).valves = s.valves ∧ (pitchFrameArrival p s).spu = s.spu ∧
    (pitchFrameArrival p s).rcs = s.rcs ∧ (pitchFrameArrival p s).ofl = s.ofl ∧
    (pitchFrameArrival p s).scu = s.scu ∧ (pitchFrameArrival p s).dsu = s.dsu ∧
    (pitchFrameArrival p s).lif = s.lif ∧ (pitchFrameArrival p s).address = s.address ∧
    (pitchFrameArrival p s).pins = s.pins ∧ (pitchFrameArrival p s).pending = s.pending := by
  unfold pitchFrameArrival
  try dsimp only
  (repeat' split) <;> simp

@[simp] theorem setReceiver_frame (s : State) (r : Receiver) :
    (setReceiver r s).ptk = s.ptk ∧ (setReceiver r s).cfg = s.cfg ∧ (setReceiver r s).ifq = s.ifq ∧
    (setReceiver r s).heads = s.heads ∧ (setReceiver r s).valves = s.valves ∧ (setReceiver r s).spu = s.spu ∧
    (setReceiver r s).rcs = s.rcs ∧ (setReceiver r s).ofl = s.ofl ∧ (setReceiver r s).scu = s.scu ∧
    (setReceiver r s).dsu = s.dsu ∧ (setReceiver r s).flt = s.flt ∧ (setReceiver r s).address = s.address ∧
    (setReceiver r s).pins = s.pins ∧ (setReceiver r s).pending = s.pending := by
  simp [setReceiver]

@[simp] theorem dispatch_frame (s : State) (f : SealedFrame) :
    (dispatch f s).address = s.address ∧ (dispatch f s).pins = s.pins ∧ (dispatch f s).pending = s.pending := by
  unfold dispatch
  try dsimp only
  (repeat' split) <;> simp

@[simp] theorem frameComplete_frame (s : State) (f : SealedFrame) (e : Bool) :
    (frameComplete f e s).address = s.address ∧ (frameComplete f e s).pins = s.pins ∧
    (frameComplete f e s).pending = s.pending := by
  unfold frameComplete
  try dsimp only
  (repeat' split) <;> simp

@[simp] theorem receiveChar_frame (s : State) (c : LinkChar) :
    (receiveChar s c).address = s.address ∧ (receiveChar s c).pins = s.pins ∧ (receiveChar s c).pending = s.pending := by
  unfold receiveChar
  try dsimp only
  (repeat' split) <;> simp

end Sys2Proof.Machine
end

