-- ==== Sys2Proof/Laws/FrameTurret.lean ====
section
/-! SUPPORT. The blocks that each operation of the encoder report leaves unchanged. -/

namespace Sys2Proof.Machine

@[simp] theorem trackPitch_frame (s : State) :
    (trackPitch s).cfg = s.cfg ∧ (trackPitch s).heads = s.heads ∧ (trackPitch s).valves = s.valves ∧
    (trackPitch s).spu = s.spu ∧ (trackPitch s).rcs = s.rcs ∧ (trackPitch s).ofl = s.ofl ∧
    (trackPitch s).scu = s.scu ∧ (trackPitch s).dsu = s.dsu ∧ (trackPitch s).lif = s.lif ∧
    (trackPitch s).flt = s.flt ∧ (trackPitch s).address = s.address ∧ (trackPitch s).pins = s.pins ∧
    (trackPitch s).pending = s.pending := by
  simp [trackPitch]

@[simp] theorem purgeIfSynced_frame (s : State) :
    (purgeIfSynced s).ptk = s.ptk ∧ (purgeIfSynced s).cfg = s.cfg ∧ (purgeIfSynced s).heads = s.heads ∧
    (purgeIfSynced s).valves = s.valves ∧ (purgeIfSynced s).spu = s.spu ∧ (purgeIfSynced s).rcs = s.rcs ∧
    (purgeIfSynced s).ofl = s.ofl ∧ (purgeIfSynced s).scu = s.scu ∧ (purgeIfSynced s).dsu = s.dsu ∧
    (purgeIfSynced s).lif = s.lif ∧ (purgeIfSynced s).address = s.address ∧ (purgeIfSynced s).pins = s.pins ∧
    (purgeIfSynced s).pending = s.pending := by
  unfold purgeIfSynced
  try dsimp only
  (repeat' split) <;> simp

@[simp] theorem pitchEvent_frame (s : State) :
    (pitchEvent s).cfg = s.cfg ∧ (pitchEvent s).scu = s.scu ∧ (pitchEvent s).address = s.address ∧
    (pitchEvent s).pins = s.pins ∧ (pitchEvent s).pending = s.pending := by
  simp [pitchEvent]

@[simp] theorem reopenValves_frame (s : State) :
    (reopenValves s).ptk = s.ptk ∧ (reopenValves s).cfg = s.cfg ∧ (reopenValves s).ifq = s.ifq ∧
    (reopenValves s).heads = s.heads ∧ (reopenValves s).spu = s.spu ∧ (reopenValves s).rcs = s.rcs ∧
    (reopenValves s).ofl = s.ofl ∧ (reopenValves s).scu = s.scu ∧ (reopenValves s).dsu = s.dsu ∧
    (reopenValves s).lif = s.lif ∧ (reopenValves s).flt = s.flt ∧ (reopenValves s).address = s.address ∧
    (reopenValves s).pins = s.pins ∧ (reopenValves s).pending = s.pending := by
  unfold reopenValves
  refine ⟨?_, ?_, ?_, ?_, ?_, ?_, ?_, ?_, ?_, ?_, ?_, ?_, ?_, ?_⟩ <;> exact foldl_keeps _ _ (by intros; (repeat' split) <;> simp) _ _

@[simp] theorem startMoving_frame (s : State) :
    (startMoving s).cfg = s.cfg ∧ (startMoving s).ifq = s.ifq ∧ (startMoving s).heads = s.heads ∧
    (startMoving s).spu = s.spu ∧ (startMoving s).rcs = s.rcs ∧ (startMoving s).ofl = s.ofl ∧
    (startMoving s).scu = s.scu ∧ (startMoving s).dsu = s.dsu ∧ (startMoving s).lif = s.lif ∧
    (startMoving s).flt = s.flt ∧ (startMoving s).address = s.address ∧ (startMoving s).pins = s.pins ∧
    (startMoving s).pending = s.pending := by
  unfold startMoving
  try dsimp only
  (repeat' split) <;> simp

@[simp] theorem allTransitions_frame (s : State) :
    (allTransitions s).ptk = s.ptk ∧ (allTransitions s).cfg = s.cfg ∧ (allTransitions s).ifq = s.ifq ∧
    (allTransitions s).rcs = s.rcs ∧ (allTransitions s).ofl = s.ofl ∧ (allTransitions s).scu = s.scu ∧
    (allTransitions s).dsu = s.dsu ∧ (allTransitions s).lif = s.lif ∧ (allTransitions s).address = s.address ∧
    (allTransitions s).pins = s.pins ∧ (allTransitions s).pending = s.pending := by
  unfold allTransitions
  refine ⟨?_, ?_, ?_, ?_, ?_, ?_, ?_, ?_, ?_, ?_, ?_⟩ <;> exact (foldl_keeps _ _ (by intros; simp) _ _).trans (by simp)

@[simp] theorem turretAdvance_frame (s : State) :
    (turretAdvance s).cfg = s.cfg ∧ (turretAdvance s).scu = s.scu ∧ (turretAdvance s).address = s.address ∧
    (turretAdvance s).pins = s.pins ∧ (turretAdvance s).pending = s.pending := by
  unfold turretAdvance
  try dsimp only
  (repeat' split) <;> simp

@[simp] theorem encoderReport_frame (s : State) (d : Direction) :
    (encoderReport d s).cfg = s.cfg ∧ (encoderReport d s).scu = s.scu ∧ (encoderReport d s).address = s.address ∧
    (encoderReport d s).pins = s.pins ∧ (encoderReport d s).pending = s.pending := by
  unfold encoderReport
  try dsimp only
  (repeat' split) <;> simp

@[simp] theorem stopTurret_frame (s : State) :
    (stopTurret s).cfg = s.cfg ∧ (stopTurret s).ifq = s.ifq ∧ (stopTurret s).heads = s.heads ∧
    (stopTurret s).spu = s.spu ∧ (stopTurret s).rcs = s.rcs ∧ (stopTurret s).ofl = s.ofl ∧
    (stopTurret s).scu = s.scu ∧ (stopTurret s).dsu = s.dsu ∧ (stopTurret s).lif = s.lif ∧
    (stopTurret s).flt = s.flt ∧ (stopTurret s).address = s.address ∧ (stopTurret s).pins = s.pins ∧
    (stopTurret s).pending = s.pending := by
  simp [stopTurret, closeValves]

end Sys2Proof.Machine
end

