-- ==== Sys2Proof/Tests/Slice0.lean ====
section
/-! SUPPORT. Tests: the manual's worked examples against the model, the smoke tests of WellFormed, and, for every statement
with hypotheses, a state and operands that meet them together. -/

open Sys2Proof Sys2Proof.Machine Sys2Proof.Claims

namespace Sys2Proof.Tests

-- Each test holds a thread while it is evaluated: one at a time.
set_option Elab.async false

/-! ### States -/

/-- What a command leaves; the state itself where it leaves none. -/
def next (c : Instr) (s : State) : State :=
  match exec c s with
  | .next t => t
  | .fault _ => s
  | .refused _ => s

/-- The recipe of spec/03 section 3.10, spec/05 section 5.11 and spec/07 section 7.6, with audit exponent 3. -/
def recipe : List Word := [1, 400, 1100, 120, 1300, 1500, 2400, 250, 400, 4, 720, 180, 12, 800, 850, 12, 40, 300, 3, 2]

/-- Bank A LIVE with that recipe at number 0 and at the number 1 with flush_start 61 and flush_time 0; n jars in flight. -/
def store (n : Nat) : Rcs :=
  { Rcs.reset with
    a := ⟨storeWords (fun _ w => w) (recipe ++ [1, 61, 1100, 0, 1300, 1500, 2400, 250, 400]) 0 (Vector.replicate 160 0), n⟩ }

def record (pitch : Word) : JarRecord := ⟨pitch, 77031, 0, 0, true, 905, []⟩

/-- A jar of recipe 0 or 1 of bank A. -/
def jar (recipeNumber : Byte) (accrued : Nat) (c : Closure) : Jar :=
  { freshJar { record 4212 with recipe := recipeNumber } true (some .a) true (some 905) c with flushAccrued := accrued }

/-- A state at a turret count and backlog, the recipe in bank A, chute type 2. -/
def at_ (turret backlog : Nat) : State :=
  ((State.reset.setPtk { Ptk.reset with turret := turret, backlog := backlog }).setRcs (store 0)).setCfg
    #v[0, 4, 63, 2, 4, 5, 0]

/-- A jar on head k, in flight under bank A, and the turret MOVING. -/
def holding (turret : Nat) (k : Fin 12) (st : HeadState) (j : Jar) : State :=
  (((at_ turret 0).setPtk { (at_ turret 0).ptk with motion := .moving }).setRcs (store 1)).setHead k
    ⟨.inService, none, st, some j⟩

def synced (s : State) : State := s.setPtk { s.ptk with sync := .synced }

/-- An entry whose jar has the flush ratio and the temperature of spec/07 section 7.6. -/
def entry (due : Word) : OutfeedEntry := ⟨{ jar 0 90 .seated with effectiveTemp := some 875 }, 0, due⟩

/-- A window that has collected the first seven samples of spec/07 section 7.6. -/
def sevenSamples (s : State) : State :=
  s.setScu { s.scu with window := .collecting [201, 198, 240, 205, 199, 190, 203] 0 }

def reply (k torque angle : Nat) (st : DriveStatus) : Reply :=
  ⟨k, st, BitVec.ofNat 11 torque, BitVec.ofNat 12 angle, [byteOfNat k, 7], crc16 [byteOfNat k, 7]⟩

/-- The slot of the head bus in progress, and whether it has had its arrival. -/
def inSlot (position : Nat) (ended : Bool) (s : State) : State :=
  s.setSpu { s.spu with position := position, slotEnded := ended }

/-- Head 3 in a RUN slot with a run, a sum and an angle. -/
def inRun (run sum misses : Nat) : State :=
  (inSlot 4 false (holding 2000 3 .torquing (jar 0 120 .pending))).setSpindle 3 ⟨.run 400, .free, run, sum, misses, 262, 190⟩

/-- The fault list of spec/11 section 11.6 with its list full and 11 and 13 in the overflow set. -/
def faultsFull : FaultList :=
  ⟨[⟨.infeedStale, 100, 0⟩, ⟨.strayJar, 101, 0⟩, ⟨.capMissing, 102, 0⟩, ⟨.sensorUnmatched, 103, 0⟩, ⟨.linkNoise, 104, 0⟩,
      ⟨.ghostRecord, 105, 0⟩, ⟨.sensorSaturated, 106, 0⟩, ⟨.rejectRun, 107, 0⟩],
    [⟨.steamLow, 112, 0⟩, ⟨.headLinkLost, 110, 0⟩]⟩

/-- A state whose port is busy, so that its queues may hold frames. -/
def busy (s : State) (pass : List SealedFrame) (own : List Frame) (hold : Bool) : State :=
  s.setLif { s.lif with
    passFifo := pass, transmitQueue := own, upstreamHold := hold, sending := some (sealFrame ⟨63, 1, 4, [1, 2, 0]⟩) }

def foreign : SealedFrame := sealFrame ⟨12, 3, 2, [0]⟩

/-- A recipe of bank B out of order at number n, bank A LIVE, and the signature of B. -/
def spareDisordered (n : Nat) : State :=
  let words := storeWords (fun _ w => w) [1, 400, 300] (20 * n) (Vector.replicate 160 0)
  State.reset.setRcs { Rcs.reset with b := ⟨words, 0⟩, signature := bankSignature words }

def cursors (read write : Cursor) (s : State) : State :=
  s.setRcs { s.rcs with readCursor := read, writeCursor := write }

/-- Bank B is RETIRING with one jar in flight on head 0. -/
def draining : State :=
  (State.reset.setRcs { Rcs.reset with b := ⟨Vector.replicate 160 0, 1⟩, retiring := true, signature := 0 }).setHead 0
    ⟨.inService, none, .settled, some { jar 0 0 .seated with tag := some .b }⟩

theorem forall_some_iff {P : Jar → Prop} (o : Option Jar) : (∀ j, o = some j → P j) ↔ ∀ j ∈ o.toList, P j := by
  cases o <;> simp

/-! ### WellFormed refuses an ill-formed term for each check -/

theorem test_wf_idle_start_bit : (Instr.characterArrival 0).wellFormed = false := by decide
theorem test_wf_empty_frame : (Instr.frameArrival []).wellFormed = false := by decide
theorem test_wf_frame_start_bit : (Instr.frameArrival [1, 2]).wellFormed = false := by decide
theorem test_wf_reply_head : (Instr.headBusSlotArrival 0 (some ⟨12, .ok, 0, 0, [], 0⟩)).wellFormed = false := by decide
theorem test_wf_write_words : (Instr.write 0 23 (List.replicate 23 0)).wellFormed = false := by decide
theorem test_wf_unknown_is_known : (Instr.unknownRequest [1, 0]).wellFormed = false := by decide
theorem test_wf_unknown_length : (Instr.unknownRequest (List.replicate 49 0)).wellFormed = false := by decide
theorem test_wf_accepts : (Instr.unknownRequest [12, 0]).wellFormed = true ∧ (Instr.write 0 20 []).wellFormed = true := by
  decide

/-! ### Formats (spec/12, spec/06) -/

/-- The check value of the nine characters "123456789" under polynomial 0x1021 and start value 0xFFFF (R93). -/
theorem test_crc : crc16 [0x31, 0x32, 0x33, 0x34, 0x35, 0x36, 0x37, 0x38, 0x39] = 0x29B1#16 := by decide +kernel

/-- Bit positions of the halt mask (spec/12, PITCH): station 7 bit 7 of byte 9, station 12 bit 4 of byte 8. -/
theorem test_halt_bits :
    stampFrame 7 true ⟨0, 63, 1, List.replicate 10 0⟩ = ⟨0, 63, 1, [0, 0, 0, 0, 0, 0, 0, 0, 0, 0x80]⟩ ∧
    stampFrame 12 true ⟨0, 63, 1, List.replicate 10 0⟩ = ⟨0, 63, 1, [0, 0, 0, 0, 0, 0, 0, 0, 0x10, 0]⟩ := by decide

/-- The outgoing frame of spec/12 section 12.2: its first payload bytes and the station's entry. -/
theorem test_jar_frame_bytes :
    (recordBytes ⟨4212, 77031, 2, 1, true, 905, [⟨7, 0, 267, 201⟩]⟩) =
      [0x10, 0x74, 0x00, 0x01, 0x2C, 0xE7, 2, 1, 0x01, 1, 0x03, 0x89, 7, 0, 0x01, 0x0B, 0x00, 0xC9] := by decide

/-- Bit 0 start, bits 1 to 8 data with the least significant first, bit 9 mark, bit 10 odd parity (spec/12). -/
theorem test_link_char : linkChar 0b00000111#8 true = 0b11000001111#11 ∧ linkChar 0 true = 0b01000000001#11 := by decide

/-! ### The arithmetic of spec/07 and spec/08 -/

theorem test_good_jar : expectedDeflection 875 150 200 180 12 800 = 236 ∧ weakThreshold 236 12 = 177 ∧
    trimmedMean [201, 198, 240, 205, 199, 190, 203, 202] = 201 ∧ sealVerdictOf 201 236 12 40 300 = .sealed := by decide

theorem test_limits : expectedDeflection 650 0 0 300 20 700 = 150 ∧ expectedDeflection 990 12 0 1000 63 600 = 2000 ∧
    trimmedMean (List.replicate 8 (-37)) = -37 ∧ trimmedMean (List.replicate 8 (-500)) = -500 ∧
    sealVerdictOf 100 62 16 120 200 = .leak := by decide

/-- Jars 7 to 10 of the example in spec/08 section 8.3. -/
theorem test_audit_steps : auditStep 64 = 129 ∧ auditStep 258 = 516 ∧ auditStep 516 = 9 ∧ auditStep 512 = 1 := by decide

set_option maxRecDepth 100000 in
/-- The signature of a bank of zeros (R93, R104), worked out apart from the model. -/
theorem test_reset_signature : State.reset.rcs.signature = 0x1CE9#16 := by decide +kernel

/-! ### Commands -/

/-- The second arrival at 600 in the example of spec/01 section 1.1 is no pitch event. -/
theorem test_encoder_second_arrival :
    (next (.encoderReport .forward false 0) (at_ 599 1)).ptk = { (at_ 599 1).ptk with turret := 600, backlog := 0 } := by
  decide +kernel

/-- Pitch event 4 of the example in spec/01 section 1.6: interval 52, speed 1153, entry 3, lead 42. -/
theorem test_encoder_pitch_event :
    (let s := (at_ 299 0).setPtk { (at_ 299 0).ptk with
      pitchTimer := 52, originPresent := true, leadTable := #v[300, 8, 600, 18, 900, 30, 1200, 42, 1200, 42, 1200, 42, 1200, 42, 1200, 42] }
     let t := next (.encoderReport .forward false 0) s
     t.ptk.p = 1 ∧ t.ptk.speed = 1153 ∧ t.ptk.lead = 42) := by decide +kernel

theorem test_standstill :
    (next .standstillExpiry ((holding 602 0 .flushing (jar 0 90 .pending)).setPtk
      { (holding 602 0 .flushing (jar 0 90 .pending)).ptk with standstill := 50 })).ptk.motion = .stopped := by
  decide +kernel

/-- The 120th millisecond of spec/03 section 3.10. -/
theorem test_tick_reaches_target :
    (let t := next (.flushMillisecondTick true) ((holding 958 0 .flushing (jar 0 119 .pending)).setValve 0 true)
     (t.head 0).state = .flushed ∧ t.valve 0 = false ∧ t.accumulator 0 = 120) := by decide +kernel

theorem test_slot_start_run :
    (next (.headSlotStart 3) (inSlot 3 true (holding 2000 3 .torquing (jar 0 120 .pending)))).spindle 3 =
      { Spindle.reset with command := .run 400 } := by decide +kernel

/-- R69: a slot arrives once in its cycle, the next slot is that of the next head, and the cycle ends with head 11. -/
theorem test_slots_in_order :
    (let s := next (.headBusSlotArrival 3 (some (reply 3 300 90 .ok))) (inRun 0 0 0)
     (s.spindle 3).run = 1 ∧ (next (.headBusSlotArrival 3 none) s).spindle 3 = s.spindle 3 ∧
      (next (.headSlotStart 5) s).spu.position = 4 ∧
      (next (.headSlotStart 4) s).spu.position = 5 ∧ (next .headBusSyncSlot s).spu.position = 4 ∧
      (next .headBusSyncSlot (inSlot 12 true s)).spu.position = 0) := by decide +kernel

/-- Slot 10 of spec/05 section 5.11. -/
theorem test_slot_seats :
    ((next (.headBusSlotArrival 3 (some (reply 3 276 224 .ok))) (inRun 3 794 0)).head 3).jar.map
      (fun j => (j.closure, j.seatTorque, j.finalAngle)) = some (.seated, 267, 224) := by decide +kernel

/-- Case B of spec/05 section 5.12: the ceiling is tested before the angle. -/
theorem test_slot_over_torque :
    ((next (.headBusSlotArrival 3 (some (reply 3 430 800 .ok))) (inRun 0 0 0)).head 3).jar.map
      (fun j => (j.closure, j.maxTorque, j.finalAngle)) = some (.overTorque, 430, 800) := by decide +kernel

theorem test_edge_reads_settle : (next .jarEyeEdge State.reset).scu.window = .settling 4 0 := by decide +kernel

/-- The eighth sample of spec/07 section 7.6 against a due entry: the jar passes and its bank's count falls. -/
theorem test_sample_completes :
    (let s := (sevenSamples (at_ 0 0)).setOfl [entry 0]
     let t := next (.sensorSampleArrival 202) (s.setRcs (store 1))
     t.ofl = [] ∧ t.dsu.audit = 2 ∧ t.dsu.tallies[0] = 1 ∧ t.rcs.a.inFlight = 0) := by decide +kernel

/-- Case D of spec/01 section 1.7: P 1001, O 5, m 1010. -/
theorem test_pitch_frame_skew :
    (let s := synced ((at_ 0 0).setCfg #v[5, 4, 63, 2, 4, 5, 0])
     let t := next (arrival ⟨0, 63, 1, wordBytes 1010 ++ List.replicate 8 0⟩) (s.setPtk { s.ptk with p := 1001 })
     t.ptk.p = 1005 ∧ t.flt.list = [⟨.pitchSkew, 1005, 4⟩]) := by decide +kernel

theorem test_character_begins_frame :
    (next (.characterArrival (linkChar 7 true)) State.reset).lif.receiver = .collect [linkChar 7 true] := by decide +kernel

/-- The departures of spec/09 section 9.9: HOLD stays at 5 free and is released at 6. -/
theorem test_completion_releases_hold :
    (next .transmitCompletion (busy State.reset (List.replicate 7 foreign) [] true)).lif.upstreamHold = false ∧
    (next .transmitCompletion (busy State.reset (List.replicate 8 foreign) [] true)).lif.upstreamHold = true := by
  decide +kernel

theorem test_hold_keeps_frame :
    (let s := next .downstreamHoldAsserted State.reset
     let t := next (.status 9) s
     t.lif.sending = none ∧ t.lif.transmitQueue.length = 1 ∧
      ((next .downstreamHoldReleased t).lif.sending.map (fun f => f.frame.payload.length)) = some 36) := by
  decide +kernel

/-- CLEAR_FAULT 9 of spec/11 section 11.6 promotes 11. -/
theorem test_clear_promotes :
    (let t := next (.clearFault 1 9) (State.reset.setFlt faultsFull)
     t.flt.list.map (fun e => e.code.code) = [3, 7, 15, 1, 6, 14, 16, 11] ∧
     t.flt.overflow.map (fun e => e.code.code) = [13]) := by decide +kernel

theorem test_faults_lists :
    (next (.faults 1) (State.reset.setFlt ⟨[⟨.steamLow, 0x1234, 2⟩], []⟩)).lif.sending.map (fun f => f.frame.payload) =
      some [2, 1, 0, 1, 11, 0x12, 0x34, 2, 0] := by decide +kernel

/-- Rows of the example in spec/10 section 10.4. -/
theorem test_cursor_clamps : (next (.cursor 1 1 5 12) State.reset).rcs.writeCursor = ⟨.config, 6⟩ := by decide +kernel

theorem test_write_config :
    (let t := next (.write 1 4 [20, 9, 3, 40]) (cursors ⟨.live, 0⟩ ⟨.config, 1⟩ State.reset)
     t.cfg = #v[0, 16, 9, 3, 31, 5, 0] ∧ t.rcs.writeCursor = ⟨.config, 5⟩) := by decide +kernel

theorem test_read_config :
    (next (.read 1 20) ((cursors ⟨.config, 0⟩ ⟨.live, 0⟩ State.reset).setCfg #v[0, 16, 9, 3, 31, 2, 1])).lif.sending.map
      (fun f => f.frame.payload) = some [6, 1, 0, 7, 0, 0, 0, 16, 0, 9, 0, 3, 0, 31, 0, 2, 0, 1] := by decide +kernel

set_option maxRecDepth 100000 in
/-- A SPARE bank with recipe 2 out of order (spec/06 section 6.10), and a bank of zeros accepted. -/
theorem test_commit :
    (next (.commit 1 (spareDisordered 2).rcs.signature) (spareDisordered 2)).lif.sending.map (fun f => f.frame.payload) =
      some [7, 1, 6, 2] ∧
    (next (.commit 1 0x1CE9) State.reset).rcs.live = .b := by decide +kernel

theorem test_head_service :
    ((next (.headService 1 3 1) State.reset).head 3).pendingService = some .outOfService := by decide +kernel

theorem test_seed_audit :
    (next (.seedAudit 1 1500) State.reset).dsu.audit = 476 ∧ (next (.seedAudit 1 1024) State.reset).dsu.audit = 1 := by
  decide +kernel

theorem test_clear_tallies :
    (next (.clearTallies 1) (State.reset.setDsu ⟨5, 3, Vector.replicate 15 9⟩)).dsu = ⟨5, 3, Vector.replicate 15 0⟩ := by
  decide +kernel

/-- The warm reset of spec/01 section 1.10 keeps the turret count and takes entry 0's lead. -/
theorem test_reset_station :
    (let t := next (.resetStation 1) ((at_ 2870 0).setPtk { (at_ 2870 0).ptk with
      p := 4210, speed := 1000, lead := 42, leadTable := #v[300, 8, 600, 18, 900, 30, 1200, 42, 1200, 42, 1200, 42, 1200, 42, 1200, 42] })
     t.ptk.turret = 2870 ∧ t.ptk.p = 0 ∧ t.ptk.lead = 8 ∧ t.ptk.speed = 0) := by decide +kernel

theorem test_unknown_request :
    (next (.unknownRequest [200, 4, 1]) State.reset).lif.sending.map (fun f => f.frame.payload) = some [200, 4, 7] := by
  decide +kernel

theorem test_cold_reset_address :
    (next (.coldReset 63) State.reset).address = 62 ∧ (next (.coldReset 0) State.reset).address = 1 := by decide +kernel

theorem test_no_word_spells_a_command : decodeTableWord 32 7 = none := rfl

theorem recordsShort_iff (s : State) : RecordsShort s ↔ (∀ r ∈ s.ifq, r.annotations.length ≤ 6) ∧
    (∀ k, ∀ j ∈ (s.head k).jar.toList, j.record.annotations.length ≤ 6) ∧
    ∀ e ∈ s.ofl, e.jar.record.annotations.length ≤ 6 := by
  simp only [RecordsShort, forall_some_iff]

/-! ### Witnesses: a state and operands that meet all hypotheses of a statement together, for each of its clauses -/

theorem forall_bank_iff {P : BankId → Prop} : (∀ i, P i) ↔ P .a ∧ P .b :=
  ⟨fun h => ⟨h .a, h .b⟩, fun h i => by cases i <;> simp [h.1, h.2]⟩

theorem test_witness_StepTakesFrontCommand :
    (State.reset.setPending [.jarEyeEdge, .headBusSyncSlot]).pending = .jarEyeEdge :: [.headBusSyncSlot] ∧
    State.reset.pending = [] := by decide

/-- The four rows of R1, each at the ends of its range of backlogs. -/
theorem test_witness_EncoderReportCounts : ∀ t ∈ [0, 3599], ∀ b ∈ [0, 1, 3598, 3599],
    (at_ t b).ptk.turret < 3600 ∧ (at_ t b).ptk.backlog < 3600 ∧ (at_ t b).ptk.backlog = b := by decide +kernel

theorem test_witness_AdvanceBetweenPitches :
    AtFront (at_ 0 0) ∧ nextCount (at_ 0 0) % 300 ≠ 0 ∧ AtFront (at_ 3598 0) ∧ nextCount (at_ 3598 0) % 300 ≠ 0 := by
  decide +kernel

theorem test_witness_PitchEventTracks : PitchDue (at_ 299 0) ∧ PitchDue (at_ 3599 0) := by decide +kernel

/-- Head 0 one count before its apply angle, and just past the infeed; and, with no jar, at the pitch event after its exit and
between two pitches with its TO_PITCH standing. -/
theorem test_witness_HeadsPassTheirPoints :
    (∀ t ∈ [0, 1299, 2998],
      (let s := holding t 0 .flushed (jar 0 120 .pending)
       AtFront s ∧ (s.head 0).jar = some (jar 0 120 .pending) ∧ s.angle 0 ≠ 2999 ∧ s.angle 0 ≠ 3599)) ∧
    ∀ t ∈ [3150, 3299],
      (let s := (at_ t 0).setSpindle 0 { Spindle.reset with releaseHold := .toPitch }
       AtFront s ∧ (s.head 0).jar = none ∧ s.angle 0 ≠ 2999 ∧ s.angle 0 ≠ 3599) := by decide +kernel

/-- Head 0 FLUSHED with another jar FLUSHING on head 2, at a turret count and with a chute type. -/
def twoJars (turret : Nat) (chute : Word) : State :=
  (((holding turret 0 .flushed (jar 0 120 .pending)).setHead 2
    ⟨.inService, none, .flushing, some (jar 0 50 .pending)⟩).setRcs (store 2)).setCfg #v[0, 4, 63, chute, 4, 5, 0]

/-- The hypotheses of CapFaults on head 0 of `twoJars`. -/
abbrev ReachesAlone (s : State) : Prop :=
  (AtFront s ∧ (s.head 0).jar = some (jar 0 120 .pending) ∧ (s.head 0).state = .flushed ∧
    s.rcs.jarField (jar 0 120 .pending) .applyAngle ≤ s.angle 0 + 1 ∧ s.angle 0 + 1 < 3600) ∧
  ∀ i, i ≠ 0 → ∀ j', (s.head i).jar = some j' → (s.head i).state ∈ [HeadState.loaded, .flushing, .flushed] →
    s.angle i + 1 < s.rcs.jarField j' .applyAngle

set_option maxRecDepth 100000 in
/-- Between two pitches, the cap type equal to the chute type. -/
theorem test_witness_CapFaults_cap_right :
    ReachesAlone (twoJars 1350 1) ∧ nextCount (twoJars 1350 1) % 300 ≠ 0 := by
  refine ⟨⟨by decide +kernel, ?_⟩, by decide +kernel⟩
  simp only [forall_some_iff]
  decide +kernel

set_option maxRecDepth 100000 in
/-- Between two pitches, the cap type different from the chute type. -/
theorem test_witness_CapFaults_cap_wrong :
    ReachesAlone (twoJars 1350 2) ∧ nextCount (twoJars 1350 2) % 300 ≠ 0 := by
  refine ⟨⟨by decide +kernel, ?_⟩, by decide +kernel⟩
  simp only [forall_some_iff]
  decide +kernel

set_option maxRecDepth 100000 in
/-- At a pitch event with a cap type that differs from the chute type: the committed recipes in order and jars and counts in step. -/
theorem test_witness_CapFaults :
    ReachesAlone (twoJars 1499 2) ∧ PitchDue (twoJars 1499 2) ∧ CommittedInOrder (twoJars 1499 2) ∧
    CountsMatchJars (twoJars 1499 2) ∧ JarsConsistent (twoJars 1499 2) := by
  refine ⟨⟨by decide +kernel, ?_⟩, by decide +kernel, forall_bank_iff.2 ?_, ⟨forall_bank_iff.2 ?_, ?_⟩, ?_⟩
  · simp only [forall_some_iff]
    decide +kernel
  · decide +kernel
  · decide +kernel
  · decide +kernel
  · simp only [JarsConsistent, forall_some_iff]
    decide +kernel

set_option maxRecDepth 100000 in
/-- The same with the cap type equal to the chute type: the committed recipes in order and jars and counts in step. -/
theorem test_witness_CapFaults_pitch_cap_right :
    ReachesAlone (twoJars 1499 1) ∧ PitchDue (twoJars 1499 1) ∧ CommittedInOrder (twoJars 1499 1) ∧
    CountsMatchJars (twoJars 1499 1) ∧ JarsConsistent (twoJars 1499 1) := by
  refine ⟨⟨by decide +kernel, ?_⟩, by decide +kernel, forall_bank_iff.2 ?_, ⟨forall_bank_iff.2 ?_, ?_⟩, ?_⟩
  · simp only [forall_some_iff]
    decide +kernel
  · decide +kernel
  · decide +kernel
  · decide +kernel
  · simp only [JarsConsistent, forall_some_iff]
    decide +kernel

/-- A record that the pitch event leaves behind P, in both sync states. -/
theorem test_witness_StaleRecordsRemoved : ∀ y ∈ [Sync.synced, .unsynced],
    (let s := ((at_ 299 0).setPtk { (at_ 299 0).ptk with sync := y }).setIfq [record 0, record 2]
     PitchDue s ∧ QueueOrdered s ∧ s.ptk.sync = y ∧ behind (record 0).pitch (s.ptk.p + 1) = true ∧
      ∀ q' ∈ s.ifq, behind q'.pitch (s.ptk.p + 1) = true →
        recordOffset (s.ptk.p + 1) (record 0) ≤ recordOffset (s.ptk.p + 1) q') := by decide +kernel

/-- Head 1 about to be at the infeed with its record in the queue: OUT, IN with an invalid recipe number, and IN with the
lowest flush_start under the highest lead. -/
theorem test_witness_InfeedTracked :
    (let table : Vector Word 16 := #v[1200, 60, 1200, 60, 1200, 60, 1200, 60, 1200, 60, 1200, 60, 1200, 60, 1200, 60]
     let s (v : Service) (r : JarRecord) := ((((at_ 299 0).setPtk { (at_ 299 0).ptk with leadTable := table }).setIfq [r]).setHead 1
        ⟨v, none, .empty, none⟩)
     let r : JarRecord := { record 1 with recipe := 1 }
     let r8 : JarRecord := { record 1 with recipe := 8 }
     (PitchDue (s .inService r) ∧ QueueOrdered (s .inService r) ∧ (s .inService r).angle 1 = 3599 ∧
       r ∈ (s .inService r).ifq ∧ r.pitch = (s .inService r).ptk.p + 1 ∧ (s .inService r).ofl = []) ∧
     serviceAtLoad ((s .inService r).head 1) = .inService ∧ recipeUsable (s .inService r).rcs.a.words 1 = true ∧
     (∀ i, i < 8 → leadOf (s .inService r).ptk.leadTable i ≤ 60) ∧
     61 ≤ bankField (s .inService r).rcs.a.words 1 .flushStart ∧
     PitchDue (s .inService r8) ∧ QueueOrdered (s .inService r8) ∧ (s .inService r8).angle 1 = 3599 ∧
     r8.pitch = (s .inService r8).ptk.p + 1 ∧ recipeUsable (s .inService r8).rcs.a.words 8 = false ∧
     PitchDue (s .outOfService r) ∧ QueueOrdered (s .outOfService r) ∧ (s .outOfService r).angle 1 = 3599 ∧
     serviceAtLoad ((s .outOfService r).head 1) = .outOfService) := by decide +kernel

/-- A record level with the new P and no jar; a jar and no such record. -/
theorem test_witness_InfeedUnmatched :
    ∀ x ∈ [([record 1], false), ([record 2], true), ([record 2], false)], ∀ y ∈ [Sync.synced, .unsynced],
    (let s := ((at_ 299 0).setPtk { (at_ 299 0).ptk with sync := y }).setIfq x.1
     PitchDue s ∧ QueueOrdered s ∧ s.angle 1 = 3599 ∧ s.ptk.sync = y ∧
      (x.2 = true → ∀ r ∈ s.ifq, r.pitch ≠ s.ptk.p + 1)) := by decide +kernel

/-- Head 3 about to be at the exit, SETTLED, with an empty and with a full line; and EMPTY. -/
theorem test_witness_ExitToOutfeed : ∀ n ∈ [0, 19, 20],
    (let s := (holding 299 3 .settled (jar 0 120 .seated)).setOfl (List.replicate n (entry 1))
     PitchDue s ∧ OutfeedBounded s ∧ s.angle 3 = 2999 ∧ (s.head 3).jar = some (jar 0 120 .seated) ∧
      (s.head 3).state = .settled) ∧
    (at_ 299 0).angle 3 = 2999 ∧ ((at_ 299 0).head 3).jar = none := by decide +kernel

/-- One entry three pitches late beside one that is two late, two late entries with a jar at the exit, the last of them the
last of a RETIRING bank, and a full line, none late, with a jar at the exit; the reject run one below its limit, and a full
Transmit Queue. -/
theorem test_witness_OverdueJarCompleted :
    (let last : OutfeedEntry := ⟨{ (entry 0).jar with tag := some .b }, 0, 65533⟩
     let run (s : State) : State := s.setDsu { s.dsu with rejectRun := 4 }
     let one := run ((at_ 299 0).setOfl [entry 65534, entry 65535])
     let two := (((holding 299 3 .settled (jar 0 120 .seated)).setOfl [entry 65534, last]).setRcs
       { store 1 with b := ⟨Vector.replicate 160 0, 1⟩, retiring := true, signature := 0 })
     let room := busy ((holding 299 3 .settled (jar 0 120 .seated)).setOfl (List.replicate 20 (entry 1))) []
       (List.replicate 8 ⟨63, 1, 4, []⟩) false
     (∀ s ∈ [one, two, room], PitchDue s ∧ OutfeedBounded s ∧ PortServed s ∧ RecordsShort s ∧ TalliesBounded s ∧
       s.angle 3 = 2999) ∧
     removedAt one 3 = [entry 65534] ∧ runReached one.dsu.rejectRun (one.configWord .rejectRunLimit).toNat
       (dispositionOf one (entry 65534).jar none) = true ∧
     removedAt two 3 = [entry 65534, last] ∧ removedAt room 3 = [entry 1] ∧ room.lif.transmitQueue.length = 8) := by
  simp only [recordsShort_iff]
  decide +kernel

theorem test_witness_StandstillAndTimers : ∀ n ∈ [48, 49, 50], ∀ m ∈ [Motion.moving, .stopped],
    (let s := (at_ 0 0).setPtk { (at_ 0 0).ptk with motion := m, standstill := n, pitchTimer := 65535 }
     s.ptk.motion = m ∧ s.ptk.standstill = n ∧ s.ptk.pitchTimer ≤ 65535 ∧ s.ptk.standstill ≤ 50) := by decide +kernel

/-- An OPEN valve one millisecond before the target, further before it, and without one (flush_time 0). -/
theorem test_witness_FlushTickAccrues :
    (∀ n ∈ [118, 119],
      (let j := jar 0 n .pending
       let s := (holding 958 0 .flushing j).setValve 0 true
       OpenValvesFlush s ∧ JarsMatchStates s ∧ s.valve 0 = true ∧ (s.head 0).jar = some j ∧
        s.rcs.jarField j .flushTime = 120)) ∧
    (let j := jar 1 400 .pending
     let s := (holding 958 0 .flushing j).setValve 0 true
     OpenValvesFlush s ∧ JarsMatchStates s ∧ s.valve 0 = true ∧ (s.head 0).jar = some j ∧
      s.rcs.jarField j .flushTime = 0) ∧
    OpenValvesFlush (at_ 0 0) ∧ JarsMatchStates (at_ 0 0) ∧ ∀ k, (at_ 0 0).valve k = false := by decide +kernel

theorem test_witness_SlotStartChoosesCommand :
    (let run := inSlot 3 true (holding 2000 3 .torquing (jar 0 120 .pending))
     let held := inSlot 3 true (holding 2000 3 .settled (jar 0 120 .seated))
     CycleOver (inSlot 12 true State.reset) ∧ NextSlot State.reset 0 ∧ NextSlot (inSlot 11 true State.reset) 11 ∧
      NextSlot run 3 ∧ NextSlot held 3 ∧ (run.spindle 3).releaseHold = .free ∧ (run.head 3).state = .torquing ∧
      (run.head 3).jar = some (jar 0 120 .pending) ∧ (held.head 3).state = .settled ∧
      (held.head 3).jar = some (jar 0 120 .seated) ∧ (jar 0 120 .seated).closure = .seated ∧
      ((run.setSpindle 3 { Spindle.reset with releaseHold := .toLoad }).spindle 3).releaseHold ≠ .free) := by decide +kernel

/-- The rows of R74 where they meet: torque 401 and 400 by the ceiling 400, angle 721 and 720 by the limit 720, torque 250
and 249 by the target 250, the fourth reply of the run. -/
theorem test_witness_OkReplyJudged : ∀ x ∈ [(401, 721), (400, 721), (400, 720), (250, 720), (249, 720)], ∀ run ∈ [0, 3],
    (let s := inRun run 794 0
     let r := reply 3 x.1 x.2 .ok
     InSlot s 3 ∧ Valid 3 r ∧ r.status = .ok ∧ (s.spindle 3).command = .run 400 ∧
      (s.head 3).state = .torquing ∧ (s.head 3).jar = some (jar 0 120 .pending) ∧
      s.rcs.jarField (jar 0 120 .pending) .torqueCeiling = 400 ∧ s.rcs.jarField (jar 0 120 .pending) .angleLimit = 720 ∧
      s.rcs.jarField (jar 0 120 .pending) .torqueTarget = 250 ∧
      s.rcs.jarField (jar 0 120 .pending) .seatCount = 4) := by decide +kernel

theorem test_witness_OkReplyNotJudged :
    (let s := inSlot 4 false State.reset
     InSlot s 3 ∧ Valid 3 (reply 3 300 90 .ok) ∧ (reply 3 300 90 .ok).status = .ok ∧
      (s.head 3).state ≠ .torquing) := by decide +kernel

theorem test_witness_FaultReplyTakesHeadOut :
    InSlot (inRun 2 500 1) 3 ∧ Valid 3 (reply 3 300 90 .fault) ∧
      (reply 3 300 90 .fault).status = .fault := by decide +kernel

theorem test_witness_MissedSampleCounts :
    (∀ n ∈ [1, 2, 3], InSlot (inRun 2 500 n) 3 ∧ ((inRun 2 500 n).spindle 3).misses ≤ 3 ∧
      ((inRun 2 500 n).spindle 3).command = .run 400 ∧ ((inRun 2 500 n).spindle 3).misses = n) ∧
    ∀ c ∈ [HeadCommand.idle, .release, .hold],
      (((inRun 2 500 3).setSpindle 3 { (inRun 2 500 3).spindle 3 with command := c }).spindle 3).command = c := by
  decide +kernel

theorem test_witness_UnusableReplyIsMissed :
    ¬Valid 3 (reply 4 300 90 .ok) ∧ ¬Valid 3 { reply 3 300 90 .ok with check := 0 } ∧
      ¬InSlot (inRun 0 0 0) 2 ∧ ¬InSlot (inSlot 4 true State.reset) 3 ∧ ¬NextSlot (inRun 0 0 0) 4 ∧
      ¬NextSlot (inSlot 12 true State.reset) 0 ∧ ¬CycleOver State.reset ∧ ¬CycleOver (inSlot 12 false State.reset) ∧
      (inSlot 12 true State.reset).spu.position ≤ 12 ∧ (inSlot 12 false State.reset).spu.position ≤ 12 ∧
      (inRun 0 0 0).spu.position ≤ 12 := by decide +kernel

/-- The last ring place, and each state of the window where its clauses meet. -/
theorem test_witness_SampleTaken :
    (∀ i ∈ [0, 63], ({ State.reset.scu with writeIndex := i } : Scu).writeIndex < 64) ∧
    State.reset.scu.window = .closed ∧
    ∀ n ∈ [0, 6, 7], (∃ samples : List Int, ∃ c,
      (State.reset.setScu { State.reset.scu with window := .collecting (List.replicate n 200) 0 }).scu.window =
        .collecting samples c ∧ samples.length = n) :=
  ⟨by decide, by decide, fun n _ => ⟨List.replicate n 200, 0, rfl, by simp⟩⟩

theorem test_witness_MeasurementUnmatched :
    (let s := sevenSamples (at_ 0 0)
     s.scu.window = .collecting [201, 198, 240, 205, 199, 190, 203] 0 ∧ s.ofl = [] ∧
      (s.setOfl [entry 2]).ofl = entry 2 :: [] ∧ ahead (entry 2).duePitch (s.ptk.p + 1) = true ∧
      ahead (entry 32768).duePitch (s.ptk.p + 1) = true) := by decide +kernel

/-- An entry level with P + 1 of the LIVE bank, one at a difference of 32768 from P + 1 that is the last of a RETIRING bank,
and the same with a full Transmit Queue. -/
theorem test_witness_MeasurementMatched :
    (let seven : Window := .collecting [201, 198, 240, 205, 199, 190, 203] 0
     let last : OutfeedEntry := ⟨{ (entry 0).jar with tag := some .b }, 0, 32769⟩
     let s := (sevenSamples (at_ 0 0)).setOfl [entry 1]
     let d := (sevenSamples draining).setOfl [last]
     (RecordsShort s ∧ TalliesBounded s ∧ RecordsShort d ∧ TalliesBounded d) ∧
     (s.scu.window = seven ∧ s.ofl = entry 1 :: [] ∧ ahead (entry 1).duePitch (s.ptk.p + 1) = false ∧ PortServed s ∧
       s.lif.transmitQueue.length < 8 ∧ (entry 1).jar.tracked = true ∧ (entry 1).jar.tag = some .a ∧
       s.rcs.role .a ≠ .retiring) ∧
     (d.scu.window = seven ∧ d.ofl = last :: [] ∧ ahead last.duePitch (d.ptk.p + 1) = false ∧ PortServed d ∧
       last.jar.tracked = true ∧ last.jar.tag = some .b ∧ d.rcs.role .b = .retiring ∧ (d.rcs.bank .b).inFlight = 1) ∧
     PortServed (busy d [] (List.replicate 8 ⟨63, 1, 4, []⟩) false) ∧
     8 ≤ (busy d [] (List.replicate 8 ⟨63, 1, 4, []⟩) false).lif.transmitQueue.length) := by
  simp only [recordsShort_iff]
  decide +kernel

theorem test_witness_ExpectedDeflectionSteps : ∀ Ft ∈ [0, 20, 400],
    1000 ≤ 1000 ∧ 63 ≤ 63 ∧ (Ft = 0 ∨ 20 ≤ Ft ∧ Ft ≤ 400) := by decide

theorem test_witness_TrimmedMeanOfSix : ∀ v ∈ [(-500 : Int), 2500],
    (List.replicate 8 v).length = 8 ∧ ∀ x ∈ List.replicate 8 v, -500 ≤ x ∧ x ≤ 2500 := by decide

theorem test_witness_SealVerdictRows :
    (jar 0 90 .seated).usable = true ∧ ({ jar 0 90 .seated with usable := false } : Jar).usable = false := by decide

theorem test_witness_AuditRegisterPeriod : (512#10) ≠ 0 ∧ 1 ≤ 1 ∧ 8 ≤ 8 := by decide

theorem test_witness_StatusAnswers : PortServed State.reset ∧ PortServed (busy State.reset [foreign] [] true) := by decide +kernel

theorem test_witness_FaultsAnswers :
    PortServed (State.reset.setFlt faultsFull) ∧ OverflowSorted (State.reset.setFlt faultsFull) := by decide +kernel

/-- A code in the list with and without an overflow set, a code in the overflow set, a code not active, codes 16 and 17. -/
theorem test_witness_ClearFaultRemoves :
    (let s := State.reset.setFlt faultsFull
     PortServed s ∧ FaultListBounded s ∧ OverflowSorted s ∧ s.flt.active .linkBlocked = false ∧
      .headLinkLost ∈ s.flt.overflow.map (fun e => e.code) ∧ .rejectRun ∈ s.flt.list.map (fun e => e.code) ∧
      (∀ e' ∈ s.flt.overflow, FaultCode.steamLow.code ≤ e'.code.code)) ∧
    (let s := State.reset.setFlt ⟨faultsFull.list, []⟩
     PortServed s ∧ FaultListBounded s ∧ OverflowSorted s ∧ s.flt.overflow = []) ∧
    16 < (17 : Byte).toNat ∧ ¬16 < (16 : Byte).toNat := by decide +kernel

theorem test_witness_CursorSets :
    PortServed State.reset ∧ 1 < (2 : Byte).toNat ∧ (1 : Byte).toNat ≤ 1 ∧ (0 : Byte).toNat = 0 ∧ 8 < (9 : Byte).toNat ∧
      (Table.live, (1 : Byte).toNat, 159) ∈ [(Table.live, 1, 159), (.heads, 8, 239)] ∧
      (Table.heads, (8 : Byte).toNat, 239) ∈ [(Table.live, 1, 159), (.heads, 8, 239)] := by decide +kernel

theorem test_witness_WriteIntoSpare : ∀ i ∈ [0, 159, 160], ∀ n ∈ [1, 20],
    (let s := cursors ⟨.live, 0⟩ ⟨.spare, i⟩ State.reset
     PortServed s ∧ (List.replicate n (7 : Word)).length = (byteOfNat n).toNat ∧ 1 ≤ (byteOfNat n).toNat ∧
      (byteOfNat n).toNat ≤ 20 ∧ s.rcs.writeCursor = ⟨.spare, i⟩ ∧ i ≤ 160 ∧ s.rcs.retiring = false) := by decide +kernel

theorem test_witness_WriteIntoLeadAndConfig : ∀ x ∈ [(Table.lead, 0), (.lead, 16), (.config, 0), (.config, 7)], ∀ n ∈ [1, 20],
    (let s := cursors ⟨.live, 0⟩ ⟨x.1, x.2⟩ State.reset
     PortServed s ∧ (List.replicate n (7 : Word)).length = (byteOfNat n).toNat ∧ 1 ≤ (byteOfNat n).toNat ∧
      (byteOfNat n).toNat ≤ 20 ∧ s.rcs.writeCursor = ⟨x.1, x.2⟩) := by decide +kernel

theorem test_witness_ReadTransfers : ∀ x ∈ [(Table.live, 160), (.lead, 16), (.config, 7), (.tallies, 30), (.sampleRing, 65),
      (.heads, 240), (.spare, 0)],
    (let s := cursors ⟨x.1, x.2⟩ ⟨.live, 0⟩ State.reset
     PortServed s ∧ 1 ≤ (20 : Byte).toNat ∧ (20 : Byte).toNat ≤ 20 ∧ s.rcs.readCursor = ⟨x.1, x.2⟩ ∧
      x.2 ≤ (tableContents s x.1).length ∧ (x.1 = .spare → s.rcs.retiring = false) ∧ x.1 ≠ .retiring) ∧
    (let s := cursors ⟨.retiring, 160⟩ ⟨.live, 0⟩ draining
     PortServed s ∧ s.rcs.readCursor = ⟨.retiring, 160⟩ ∧ 160 ≤ (tableContents s .retiring).length ∧
      s.rcs.retiring = true) := by decide +kernel

theorem test_witness_TransfersRefused :
    PortServed State.reset ∧ PortServed draining ∧ ([] : List Word).length ≠ (1 : Byte).toNat ∧ (0 : Byte).toNat = 0 ∧
      20 < (21 : Byte).toNat ∧ (List.replicate 21 (0 : Word)).length = (21 : Byte).toNat ∧
      State.reset.rcs.writeCursor.table ∈ [Table.live, .retiring, .tallies, .sampleRing, .heads] ∧
      (cursors ⟨.retiring, 0⟩ ⟨.spare, 0⟩ draining).rcs.writeCursor.table = .spare ∧ draining.rcs.retiring = true ∧
      (cursors ⟨.retiring, 0⟩ ⟨.spare, 0⟩ State.reset).rcs.readCursor.table = .retiring ∧
      State.reset.rcs.retiring = false := by decide +kernel

/-- A draining store; another signature; recipes 0 and 7 out of order; an accepted COMMIT with and without jars in flight. -/
theorem test_witness_CommitChecksAndSwaps :
    PortServed draining ∧ draining.rcs.retiring = true ∧ PortServed State.reset ∧ State.reset.rcs.retiring = false ∧
    (∀ n ∈ [0, 7], PortServed (spareDisordered n) ∧ (spareDisordered n).rcs.retiring = false ∧
      bankField (spareDisordered n).rcs.b.words n .valid = 1 ∧ recipeInOrder (spareDisordered n).rcs.b.words n = false ∧
      ∀ m, m < n → bankField (spareDisordered n).rcs.b.words m .valid ≠ 1) ∧
    (∀ n, n < 8 → bankField State.reset.rcs.b.words n .valid ≠ 1) ∧
    State.reset.rcs.a.inFlight = 0 ∧ PortServed (holding 0 0 .loaded (jar 0 0 .pending)) ∧
    1 ≤ ((holding 0 0 .loaded (jar 0 0 .pending)).rcs.bank .a).inFlight ∧
    (holding 0 0 .loaded (jar 0 0 .pending)).rcs.retiring = false ∧
    ∀ n, n < 8 → bankField (holding 0 0 .loaded (jar 0 0 .pending)).rcs.b.words n .valid ≠ 1 := by decide +kernel

theorem test_witness_HeadServicePends :
    PortServed State.reset ∧ 11 < (12 : Byte).toNat ∧ 1 < (2 : Byte).toNat := by decide +kernel

theorem test_witness_SeedAndClear : PortServed State.reset ∧ PortServed draining := by decide +kernel

theorem test_witness_UnknownRequestAnswered :
    PortServed State.reset ∧
    (∀ (code tag : Byte) (rest : List Byte), [12, 5] = code :: tag :: rest → code.toNat = 0 ∨ 11 < code.toNat) ∧
    ∀ (code tag : Byte) (rest : List Byte), [0, 5, 1] = code :: tag :: rest → code.toNat = 0 ∨ 11 < code.toNat := by
  refine ⟨by decide +kernel, ?_, ?_⟩ <;> (intro code tag rest h; injection h with h1 h2; subst h1; decide)

/-- The longest WRITE, a payload that opens no request, and arguments one byte too many. -/
theorem test_witness_RequestFrameCarriesOut :
    State.reset.lif.receiver = .hunt ∧ PortServed State.reset ∧
    (List.replicate 22 (0 : Word)).length = (22 : Byte).toNat ∧ opensNoRequest [12, 0] = true ∧
    opensNoRequest (0 :: List.replicate 47 1) = true ∧ (0 :: List.replicate 47 (1 : Byte)).length ≤ 48 ∧
    1 ≤ (11 : Byte).toNat ∧ (11 : Byte).toNat ≤ 11 ∧
    ([0] : List Byte).length + 2 ≠ [2, 2, 3, 6, 0, 3, 4, 4, 4, 2, 2].getD ((11 : Byte).toNat - 1) 0 ∧
    ∀ (n : Byte) (bytes : List Byte), ([1, 0] : List Byte) = n :: bytes → bytes.length ≠ 2 * n.toNat := by
  refine ⟨by decide, by decide +kernel, by decide, by decide, by decide, by decide, by decide, by decide, by decide, ?_⟩
  intro n bytes h; injection h with h1 h2; subst h1; subst h2; decide

theorem test_witness_FrameRoundTrip :
    (⟨12, 3, 2, List.replicate 48 0⟩ : Frame).payload.length ≤ 48 ∧ State.reset.lif.receiver = .hunt ∧
      State.reset.lif.passFifo.length < 12 := by decide

theorem test_witness_RecordRoundTrip :
    ({ record 1 with annotations := List.replicate 6 ⟨7, 0, 0, 0⟩ } : JarRecord).annotations.length ≤ 6 ∧
    (List.replicate 11 (0 : Byte)).length < 12 ∧
    (List.replicate 13 (0 : Byte)).length ≠ 12 + 6 * ((List.replicate 13 (0 : Byte)).getD 9 0).toNat := by decide

/-- An idle character, a mark character, the fourth character of a frame, and the last one before its end. -/
theorem test_witness_ReceiverTakesCharacters :
    (let collected (n : Nat) : List LinkChar := (linkChar 7 true) :: List.replicate n (linkChar 2 false)
     LinkBounded State.reset ∧ charIdle idleChar = true ∧ charIdle (linkChar 7 true) = false ∧
      charMark (linkChar 7 true) = true ∧ charIdle (linkChar 49 false) = false ∧ charMark (linkChar 49 false) = false ∧
      LinkBounded (State.reset.setLif { Lif.reset with receiver := .collect (collected 2) }) ∧
      (collected 1).length < 3 ∧ (collected 2).length = 3 ∧ 48 < (charData (linkChar 49 false)).toNat ∧
      ¬48 < (charData (linkChar 48 false)).toNat ∧ 4 ≤ (collected 5).length ∧
      (collected 5).length + 1 < 6 + (charData ((collected 5).getD 3 0)).toNat ∧
      (charData ((collected 5).getD 3 0)).toNat ≤ 48 ∧
      (collected 6).length + 1 = 6 + (charData ((collected 6).getD 3 0)).toNat) ∧
    (let chars := frameChars (sealFrame ⟨12, 3, 2, [0]⟩)
     (∀ x ∈ chars, charParityError x = false) ∧ chars.length = 6 + (charData (chars.getD 3 0)).toNat ∧
      heard chars = sealFrame ⟨12, 3, 2, [0]⟩ ∧ charIdle (chars.getD 6 0) = false ∧
      charMark (chars.getD 6 0) = false) := by decide +kernel

/-- An over-length character of 49, a flipped bit, another check sequence, a full Pass FIFO. -/
theorem test_witness_FramesDiscarded :
    (let f : Frame := ⟨12, 3, 2, [0]⟩
     LinkBounded State.reset ∧ State.reset.lif.receiver = .hunt ∧ 48 < (49 : Byte).toNat ∧ f.payload.length ≤ 48 ∧
      (frameChars (sealFrame f))[2]? = some (linkChar 2 false) ∧
      charIdle (linkChar 2 false ^^^ (1#11 <<< 10)) = false ∧ (sealFrame f).check + 1 ≠ crc16 (frameBytes f) ∧
      LinkBounded (busy State.reset (List.replicate 12 foreign) [] true) ∧
      (busy State.reset (List.replicate 12 foreign) [] true).lif.passFifo.length = 12 ∧
      f.address ≠ State.reset.address ∧ f.source ≠ State.reset.address ∧ f.address.toNat ≤ 63) := by decide +kernel

/-- The own address, a frame that circled the ring, and frames to be forwarded to 0 and to 63. -/
theorem test_witness_FramesForwardedOrDropped :
    State.reset.lif.receiver = .hunt ∧ PortServed State.reset ∧ State.reset.address = 1 ∧
    (⟨1, 63, 1, []⟩ : Frame).kind ≠ 2 ∧ (⟨1, 63, 1, []⟩ : Frame).kind ≠ 3 ∧
    (⟨9, 1, 2, []⟩ : Frame).source = State.reset.address ∧
    (∀ a ∈ [(0 : Byte), 63], a ≠ State.reset.address ∧ (3 : Byte) ≠ State.reset.address ∧ a.toNat ≤ 63 ∧
      (a = 0 → (2 : Byte) ≠ 1)) ∧ State.reset.lif.passFifo.length < 12 := by decide +kernel

/-- The differences where the clauses of R11 meet, in both sync states, and a payload of another length. -/
theorem test_witness_PitchFrameTracked :
    State.reset.lif.receiver = .hunt ∧ (63 : Byte) ≠ State.reset.address ∧ State.reset.address ≠ 0 ∧
    PortServed State.reset ∧ State.reset.lif.passFifo.length < 12 ∧ State.reset.ptk.sync = .unsynced ∧
    PortServed (synced State.reset) ∧ (synced State.reset).ptk.sync = .synced ∧
    (∀ d ∈ [65535, 0, 1], -1 ≤ (wordOfNat d - State.reset.ptk.p).toInt ∧ (wordOfNat d - State.reset.ptk.p).toInt ≤ 1) ∧
    (∀ d ∈ [65534, 2], (wordOfNat d - State.reset.ptk.p).toInt < -1 ∨ 1 < (wordOfNat d - State.reset.ptk.p).toInt) ∧
    (let s := State.reset.setIfq [record 1, record 2]
     PortServed s ∧ s.ptk.sync = .unsynced ∧ behind (record 1).pitch 3 = true ∧
      ∀ q' ∈ s.ifq, behind q'.pitch 3 = true → recordOffset 3 (record 1) ≤ recordOffset 3 q') ∧
    (wordBytes 2 ++ List.replicate 8 0).length = 10 ∧ (List.replicate 9 (0 : Byte)).length ≠ 10 := by decide +kernel

/-- The offsets where the rows of R19 meet, a queued pitch, a free place and a full queue. -/
theorem test_witness_JarFrameQueued :
    (let full := State.reset.setIfq ((List.range 24).map (fun n => record (wordOfNat n)))
     State.reset.lif.receiver = .hunt ∧ QueueOrdered State.reset ∧ QueueOrdered full ∧ full.ifq.length = 24 ∧
      QueueOrdered (synced full) ∧ parseRecord [] = none ∧
      (∀ o ∈ [0, 1, 64, 65, 32768, 32769], ((record (wordOfNat o)).pitch - State.reset.ptk.p).toNat = o) ∧
      (∃ q ∈ full.ifq, q.pitch = (record 5).pitch) ∧ (∀ q ∈ full.ifq, q.pitch ≠ (record 64).pitch) ∧
      ∀ q ∈ State.reset.ifq, q.pitch ≠ (record 5).pitch) := by decide +kernel

theorem test_witness_DownstreamPortArbitrates :
    (busy State.reset [] [] false).lif.sending ≠ none ∧ State.reset.lif.sending = none ∧
      State.reset.pins.downstreamHold = false ∧
      (State.reset.setPins { Pins.reset with downstreamHold := true }).pins.downstreamHold = true := by decide +kernel

theorem test_witness_FaultRaised :
    (∀ n ∈ [0, 7], (⟨faultsFull.list.take n, []⟩ : FaultList).active .pitchSkew = false ∧
      (⟨faultsFull.list.take n, []⟩ : FaultList).list.length < 8) ∧
    faultsFull.active .pitchSkew = false ∧ 8 ≤ faultsFull.list.length ∧ faultsFull.active .steamLow = true := by
  decide +kernel

theorem test_witness_FaultListKept :
    FaultListBounded (State.reset.setFlt faultsFull) ∧ OverflowSorted (State.reset.setFlt faultsFull) ∧
    exec (.clearFault 1 9) (State.reset.setFlt faultsFull) =
      .next (next (.clearFault 1 9) (State.reset.setFlt faultsFull)) :=
  ⟨by decide +kernel, by decide +kernel, rfl⟩

theorem test_witness_QueuesKept :
    (let s := ((busy State.reset [foreign] [] false).setIfq [record 0, record 2]).setOfl [entry 4]
     QueueOrdered s ∧ OutfeedBounded s ∧ LinkBounded s ∧ PortServed s ∧
      exec .transmitCompletion s = .next (next .transmitCompletion s)) :=
  ⟨by decide +kernel, by decide +kernel, by decide +kernel, by decide +kernel, rfl⟩

theorem test_witness_CountersKept :
    (let s := (holding 299 0 .settled (jar 0 120 .seated)).setDsu ⟨512, 3, #v[5, 1, 2, 1, 1, 0, 0, 0, 0, 0, 0, 0, 0, 0, 0]⟩
     TrackerInRange s ∧ AuditNonzero s ∧ TalliesBalance s ∧
      exec (.encoderReport .forward true 0) s = .next (next (.encoderReport .forward true 0) s)) :=
  ⟨by decide +kernel, by decide +kernel, by decide +kernel, rfl⟩

theorem test_witness_JarsAccounted :
    (let s := (holding 2298 3 .torquing (jar 0 120 .pending))
     JarsMatchStates s ∧ CountsMatchJars s ∧ JarsBeforeExit s ∧ 1 ≤ (s.rcs.bank .a).inFlight ∧
      exec (.encoderReport .forward true 0) s = .next (next (.encoderReport .forward true 0) s)) := by
  refine ⟨by decide +kernel, ⟨forall_bank_iff.2 (by decide +kernel), by decide +kernel⟩, by decide +kernel, by decide +kernel, rfl⟩

/-- Head 0 FLUSHING with its valve OPEN below its target, in a turret that moves. -/
theorem test_witness_ValvesFollowConditions :
    (let s := (holding 958 0 .flushing (jar 0 119 .pending)).setValve 0 true
     (ValvesFollow s ∧ JarsConsistent s ∧ JarsMatchStates s ∧ CountsMatchJars s ∧ JarsBeforeExit s) ∧
      exec .standstillExpiry s = .next (next .standstillExpiry s)) := by
  refine ⟨⟨?_, ?_, by decide +kernel, ⟨forall_bank_iff.2 (by decide +kernel), by decide +kernel⟩, by decide +kernel⟩, rfl⟩
  · simp only [ValvesFollow, forall_some_iff]
    decide +kernel
  · simp only [JarsConsistent, forall_some_iff]
    decide +kernel

theorem test_witness_RecordsAndHeadBusKept :
    (let s := ((inRun 2 500 2).setOfl [entry 4]).setIfq [record 0]
     (RecordsShort s ∧ HeadBusInRange s) ∧ exec (.headBusSlotArrival 3 none) s = .next (next (.headBusSlotArrival 3 none) s)) := by
  refine ⟨?_, rfl⟩
  simp only [recordsShort_iff]
  decide +kernel

set_option maxRecDepth 100000 in
theorem test_witness_BanksKept :
    (let s := (at_ 0 0).setRcs { store 0 with signature := 0x1CE9 }
     SignatureCurrent s ∧ CommittedInOrder s ∧ bankField (s.rcs.bank .a).words 0 .valid = 1 ∧
      exec (.commit 1 0x1CE9) s = .next (next (.commit 1 0x1CE9) s)) := by
  refine ⟨by decide +kernel, forall_bank_iff.2 ?_, by decide +kernel, rfl⟩
  decide +kernel

end Sys2Proof.Tests
end

section
/-! What an encoder report does to the Pitch Tracker (R1 to R8): the tracker's value after each part of a turret advance, the
state after each row of R1, and the head angles as a function of the high-water count (R2). -/

namespace Sys2Proof.Machine

open Sys2Proof.Claims

/-! ### The turret count -/

theorem succ_mod_eq_nextCount (s : State) (h : s.ptk.turret < 3600) : (s.ptk.turret + 1) % 3600 = nextCount s := by
  unfold nextCount
  split <;> omega

theorem pred_mod_eq (n : Nat) (h : n < 3600) : (n + 3600 - 1) % 3600 = if n = 0 then 3599 else n - 1 := by
  split <;> omega

/-- The head angles depend on the high-water count alone (R2). -/
theorem angle_eq_of_highWater_eq {s t : State} (h : t.highWater = s.highWater) (k : Fin 12) : t.angle k = s.angle k := by
  unfold State.angle
  rw [h]

theorem angle_eq (s : State) (k : Fin 12) : s.angle k = (s.highWater + (3600 - 300 * k.val)) % 3600 := by
  have hk : 300 * k.val ≤ 3600 := by omega
  unfold State.angle
  rw [Nat.add_sub_assoc hk]

/-- With no backlog the turret stands at its high-water count (R1). -/
theorem highWater_of_backlog_zero {s : State} (hb : s.ptk.backlog = 0) (ht : s.ptk.turret < 3600) :
    s.highWater = s.ptk.turret := by
  simp [State.highWater, hb, Nat.mod_eq_of_lt ht]

/-! ### The Pitch Tracker in a turret advance -/

/-- The tracker moved on by one count, MOVING (R1, R6). -/
def Ptk.moved (t : Ptk) : Ptk := { t with turret := (t.turret + 1) % 3600, motion := .moving, standstill := 0 }

/-- The tracker at a pitch event: P, then the speed, then the lead (R3, R5, R8). -/
def Ptk.pitched (t : Ptk) : Ptk := chooseLead (measurePitch { t with p := t.p + 1 })

theorem startMoving_ptk (s : State) : (startMoving s).ptk = { s.ptk with motion := .moving, standstill := 0 } := by
  unfold startMoving
  split
  · simp
  · rfl

theorem pitchEvent_ptk (s : State) : (pitchEvent s).ptk = s.ptk.pitched := by
  simp [pitchEvent, trackPitch, setPitch, Ptk.pitched]

/-- All that a turret advance does to the tracker (R1, R3, R6). -/
theorem turretAdvance_ptk (s : State) :
    (turretAdvance s).ptk = if s.ptk.moved.turret % 300 = 0 then s.ptk.moved.pitched else s.ptk.moved := by
  have hmoved : (startMoving (s.setPtk { s.ptk with turret := (s.ptk.turret + 1) % 3600 })).ptk = s.ptk.moved :=
    startMoving_ptk _
  unfold turretAdvance
  simp only [allTransitions_frame, hmoved]
  split
  · rw [pitchEvent_ptk, hmoved]
  · exact hmoved

/-- A pitch event or none, the advance leaves these four fields the same. -/
theorem turretAdvance_counts (s : State) :
    (turretAdvance s).ptk.turret = (s.ptk.turret + 1) % 3600 ∧ (turretAdvance s).ptk.backlog = s.ptk.backlog ∧
    (turretAdvance s).ptk.motion = .moving ∧ (turretAdvance s).ptk.standstill = 0 := by
  rw [turretAdvance_ptk]
  split <;> exact ⟨rfl, rfl, rfl, rfl⟩

/-! ### The rows of R1 -/

theorem encoderReport_backward {s : State} (ht : s.ptk.turret < 3600) (hb : s.ptk.backlog < 3599) :
    encoderReport .backward s = s.setPtk { s.ptk with
      turret := if s.ptk.turret = 0 then 3599 else s.ptk.turret - 1, backlog := s.ptk.backlog + 1 } := by
  rw [← pred_mod_eq _ ht]
  exact if_pos hb

theorem encoderReport_backward_full {s : State} (hb : s.ptk.backlog = 3599) : encoderReport .backward s = s := by
  simp [encoderReport, hb]

theorem encoderReport_forward_behind {s : State} (ht : s.ptk.turret < 3600) (hb : 1 ≤ s.ptk.backlog) :
    encoderReport .forward s = s.setPtk { s.ptk with turret := nextCount s, backlog := s.ptk.backlog - 1 } := by
  simp [encoderReport, Nat.ne_of_gt hb, succ_mod_eq_nextCount s ht]

theorem encoderReport_forward_front {s : State} (hb : s.ptk.backlog = 0) :
    encoderReport .forward s = turretAdvance s := by
  simp [encoderReport, hb]

/-- A backward report that is not discarded moves the count back by what it adds to the backlog (R1). -/
theorem highWater_backward {s : State} (ht : s.ptk.turret < 3600) (hb : s.ptk.backlog < 3599) :
    (encoderReport .backward s).highWater = s.highWater := by
  rw [encoderReport_backward ht hb]
  simp only [State.highWater, State.setPtk_ptk, Config.countsPerRevolution]
  split <;> omega

/-- A forward report against a backlog moves the count on by what it takes from the backlog (R1). -/
theorem highWater_forward_behind {s : State} (ht : s.ptk.turret < 3600) (hb : 1 ≤ s.ptk.backlog) :
    (encoderReport .forward s).highWater = s.highWater := by
  rw [encoderReport_forward_behind ht hb]
  simp only [State.highWater, State.setPtk_ptk, nextCount, Config.countsPerRevolution]
  split <;> omega

/-- A turret advance moves the turret count and the high-water count together (R1). -/
theorem highWater_turretAdvance {s : State} (ht : s.ptk.turret < 3600) (hb : s.ptk.backlog = 0) :
    (turretAdvance s).highWater = nextCount s := by
  obtain ⟨hturret, hbacklog, -, -⟩ := turretAdvance_counts s
  have hlt : (turretAdvance s).ptk.turret < 3600 := hturret ▸ Nat.mod_lt _ (by decide)
  rw [highWater_of_backlog_zero (hbacklog.trans hb) hlt, hturret, succ_mod_eq_nextCount s ht]

/-- The row of R1 for a turret advance, with the head angles of R2 and the motion state of R6. -/
theorem turretAdvance_front {s : State} (ht : s.ptk.turret < 3600) (hb : s.ptk.backlog = 0) :
    (turretAdvance s).ptk.turret = nextCount s ∧ (turretAdvance s).ptk.backlog = 0 ∧
    (turretAdvance s).highWater = nextCount s ∧
    (∀ k, (turretAdvance s).angle k = (nextCount s + (3600 - 300 * k.val)) % 3600) ∧
    (turretAdvance s).ptk.motion = .moving ∧ (turretAdvance s).ptk.standstill = 0 := by
  obtain ⟨hturret, hbacklog, hmotion, hstandstill⟩ := turretAdvance_counts s
  have hhigh := highWater_turretAdvance ht hb
  exact ⟨hturret.trans (succ_mod_eq_nextCount s ht), hbacklog.trans hb, hhigh, fun k => by rw [angle_eq, hhigh], hmotion,
    hstandstill⟩

/-! ### The report with the levels of its inputs -/

/-- An encoder report leaves of the inputs what it found: the state with those inputs is the state it acts on. -/
theorem setPins_inputsAfter_encoderReport (d : Direction) (eye : Bool) (caps : BitVec 12) (s : State) :
    s.setPins (inputsAfter s (encoderReport d (senseTurret eye caps s))) = senseTurret eye caps s := by
  simp [inputsAfter, senseTurret]

/-- Settles O4: each row is an equation of `encoderReport`; the high-water count carries the head angles. -/
theorem encoderReportCounts : Obligations.EncoderReportCounts := by
  intro d eye caps s ht hb
  have ht' : (senseTurret eye caps s).ptk.turret < 3600 := ht
  refine ⟨encoderReport d (senseTurret eye caps s), rfl, ?backward, ?discarded, ?behind, ?front⟩
  case backward =>
    rintro rfl hlt
    rw [setPins_inputsAfter_encoderReport]
    have hhigh := highWater_backward ht' hlt
    exact ⟨encoderReport_backward ht' hlt, hhigh, angle_eq_of_highWater_eq hhigh⟩
  case discarded =>
    rintro rfl hfull
    rw [setPins_inputsAfter_encoderReport]
    exact encoderReport_backward_full hfull
  case behind =>
    rintro rfl hpos
    rw [setPins_inputsAfter_encoderReport]
    have hhigh := highWater_forward_behind ht' hpos
    exact ⟨encoderReport_forward_behind ht' hpos, hhigh, angle_eq_of_highWater_eq hhigh⟩
  case front =>
    rintro rfl hzero
    rw [encoderReport_forward_front (s := senseTurret eye caps s) hzero]
    exact turretAdvance_front ht' hzero

end Sys2Proof.Machine
end

section
/-! What a cold reset leaves in each block (R12, R31, R53, R67, R85, R104, R122, R134, R147, R156, R159, R164). -/

namespace Sys2Proof.Machine

/-- With turret count and backlog 0, every head stands at its place of R2. -/
theorem coldReset_angle (straps : BitVec 6) (s : State) (k : Fin 12) :
    (coldReset straps s).angle k = (3600 - 300 * k.val) % 3600 := by
  rw [angle_eq, show (coldReset straps s).highWater = 0 from rfl, Nat.zero_add]

theorem leadTableReset_entry (i : Nat) (h : i < 8) : leadUpper leadTableReset i = 1200 ∧ leadOf leadTableReset i = 0 := by
  revert i
  decide

theorem coldReset_head (straps : BitVec 6) (s : State) (k : Fin 12) : (coldReset straps s).head k = Head.reset :=
  Vector.getElem_replicate k.isLt

theorem coldReset_valve (straps : BitVec 6) (s : State) (k : Fin 12) : (coldReset straps s).valve k = false :=
  Vector.getElem_replicate k.isLt

theorem coldReset_spindle (straps : BitVec 6) (s : State) (k : Fin 12) : (coldReset straps s).spindle k = Spindle.reset :=
  Vector.getElem_replicate k.isLt

/-- A head with no jar has accumulator 0 (R55). -/
theorem coldReset_accumulator (straps : BitVec 6) (s : State) (k : Fin 12) : (coldReset straps s).accumulator k = 0 := by
  simp [State.accumulator, coldReset_head, Head.reset]

/-- The spare signature is that of 160 words of 0 (R94, R104). -/
theorem coldReset_signature (straps : BitVec 6) (s : State) :
    (coldReset straps s).rcs.signature = crc16 (List.replicate 320 0) := by
  rw [show (coldReset straps s).rcs = Rcs.reset from rfl, Rcs.reset]

/-- The strap values 0 and 63 name no station (R159). -/
theorem strapAddress_toNat (straps : BitVec 6) :
    (strapAddress straps).toNat = if straps.toNat = 0 then 1 else if straps.toNat = 63 then 62 else straps.toNat := by
  unfold strapAddress
  split
  · rfl
  split
  · rfl
  · exact BitVec.toNat_setWidth_of_le (by decide)

/-- What a cold reset leaves of one head (R53, R67, R85). -/
theorem coldReset_perHead (straps : BitVec 6) (s : State) (k : Fin 12) :
    (coldReset straps s).head k = Head.reset ∧ (coldReset straps s).valve k = false ∧
    (coldReset straps s).accumulator k = 0 ∧ (coldReset straps s).spindle k = Spindle.reset :=
  ⟨coldReset_head straps s k, coldReset_valve straps s k, coldReset_accumulator straps s k, coldReset_spindle straps s k⟩

/-- Both banks have words of 0 and no jar in flight (R104). -/
theorem coldReset_bank (straps : BitVec 6) (s : State) (i : BankId) :
    ((coldReset straps s).rcs.bank i).words.toList = List.replicate 160 0 ∧
    ((coldReset straps s).rcs.bank i).inFlight = 0 := by
  have hbank : (coldReset straps s).rcs.bank i = Bank.reset := by cases i <;> rfl
  rw [hbank]
  exact ⟨Vector.toList_replicate, rfl⟩

/-- Settles O2: what holds for every head, entry, bank or strap value has a lemma above; every other field is read off
`State.reset`. -/
theorem coldResetLeaves : Obligations.ColdResetLeaves := by
  intro straps s
  exact ⟨coldReset straps s, rfl,
    -- Pitch Tracker (R12)
    rfl, rfl, rfl, coldReset_angle straps s, rfl, rfl, rfl, rfl, rfl, rfl, leadTableReset_entry, rfl,
    -- CONFIG (R156), Infeed Queue (R31)
    rfl, rfl,
    -- heads, valves, accumulators, Spindle Unit (R53, R67, R85)
    coldReset_perHead straps s, rfl,
    -- Recipe Store (R104)
    rfl, rfl, coldReset_bank straps s, coldReset_signature straps s, rfl, rfl,
    -- Outfeed Line and Seal Check Unit (R122)
    rfl, Vector.toList_replicate, rfl, rfl,
    -- Disposition Unit (R134)
    rfl, rfl, Vector.toList_replicate,
    -- Link Interface (R147)
    rfl, rfl, rfl, rfl, rfl, rfl, rfl,
    -- Fault List (R164) and address (R159)
    rfl, rfl, rfl, strapAddress_toNat straps⟩

end Sys2Proof.Machine
end

section
/-! Fault lists that differ by raises alone (R161): what such raises keep, and the codes that each operation of an encoder
report can raise. -/

namespace Sys2Proof.Machine

/-! ### A series of raises -/

/-- The entries a Fault List holds, those of the overflow set behind those of the list. -/
def FaultList.held (l : FaultList) : List FaultEntry := l.list ++ l.overflow

/-- `l'` comes from `l` by raises alone, all of them of codes in `codes`. -/
def RaisesAmong (codes : List FaultCode) : FaultList → FaultList → Prop :=
  Relation.ReflTransGen (fun l l' => ∃ e : FaultEntry, e.code ∈ codes ∧ l' = l.raise e)

section
variable {codes : List FaultCode} {l l' l'' : FaultList}

@[simp] theorem raisesAmong_refl (codes : List FaultCode) (l : FaultList) : RaisesAmong codes l l :=
  Relation.ReflTransGen.refl

@[simp] theorem raisesAmong_raise {e : FaultEntry} (h : e.code ∈ codes) : RaisesAmong codes l (l.raise e) :=
  Relation.ReflTransGen.single ⟨e, h, rfl⟩

theorem RaisesAmong.trans (h : RaisesAmong codes l l') (h' : RaisesAmong codes l' l'') : RaisesAmong codes l l'' :=
  Relation.ReflTransGen.trans h h'

theorem RaisesAmong.mono {codes' : List FaultCode} (hsub : codes ⊆ codes') (h : RaisesAmong codes l l') :
    RaisesAmong codes' l l' :=
  Relation.ReflTransGen.mono (fun _ _ ⟨e, he, hl⟩ => ⟨e, hsub he, hl⟩) l l' h

/-- A fold whose every step only raises codes in `codes`. -/
theorem raisesAmong_foldl {α : Type} {f : State → α → State} (h : ∀ t a, RaisesAmong codes t.flt (f t a).flt)
    {xs : List α} {s : State} (hs : RaisesAmong codes l s.flt) : RaisesAmong codes l (xs.foldl f s).flt := by
  induction xs generalizing s with
  | nil => exact hs
  | cons x xs ih => exact ih (hs.trans (h s x))

/-- A raise drops no entry, and adds its own where the code is not active yet (R161). -/
theorem mem_held_raise {e x : FaultEntry} :
    x ∈ (l.raise e).held ↔ x ∈ l.held ∨ l.active e.code = false ∧ x = e := by
  obtain ⟨hactive, heq⟩ | ⟨hactive, -, heq⟩ | ⟨hactive, -, heq⟩ := raise_cases l e
  · simp [heq, hactive]
  · simp only [heq, hactive, FaultList.held, List.mem_append, List.mem_singleton]
    tauto
  · simp only [heq, hactive, FaultList.held, List.mem_append, (insertFault_perm e l.overflow).mem_iff, List.mem_cons]
    tauto

theorem active_iff_held (l : FaultList) (c : FaultCode) : l.active c = true ↔ ∃ e ∈ l.held, e.code = c := by
  rw [active_iff, List.mem_map, FaultList.held]

theorem active_raise_self (l : FaultList) (e : FaultEntry) : (l.raise e).active e.code = true := by
  cases h : l.active e.code with
  | true => rwa [FaultList.raise, if_pos h]
  | false => exact (active_iff_held _ _).2 ⟨e, mem_held_raise.2 (.inr ⟨h, rfl⟩), rfl⟩

/-- A raise leaves every other code active or not, as it was. -/
theorem active_raise_of_ne {e : FaultEntry} {c : FaultCode} (h : e.code ≠ c) : (l.raise e).active c = l.active c := by
  rw [Bool.eq_iff_iff, active_iff_held, active_iff_held]
  constructor
  · rintro ⟨x, hx, hcode⟩
    obtain hx | ⟨-, rfl⟩ := mem_held_raise.1 hx
    · exact ⟨x, hx, hcode⟩
    · exact absurd hcode h
  · rintro ⟨x, hx, hcode⟩
    exact ⟨x, mem_held_raise.2 (.inl hx), hcode⟩

/-- Entries stay through a series of raises. -/
theorem RaisesAmong.held_subset (h : RaisesAmong codes l l') : l.held ⊆ l'.held := by
  induction h with
  | refl => exact List.Subset.refl _
  | tail _ hstep ih =>
    obtain ⟨e, -, rfl⟩ := hstep
    exact fun x hx => mem_held_raise.2 (.inl (ih hx))

theorem RaisesAmong.active_of_active {c : FaultCode} (h : RaisesAmong codes l l') (hc : l.active c = true) :
    l'.active c = true := by
  obtain ⟨e, he, hcode⟩ := (active_iff_held l c).1 hc
  exact (active_iff_held l' c).2 ⟨e, h.held_subset he, hcode⟩

/-- A code that is not among those raised is active after the raises only when it was before. -/
theorem RaisesAmong.active_eq {c : FaultCode} (h : RaisesAmong codes l l') (hc : c ∉ codes) :
    l'.active c = l.active c := by
  induction h with
  | refl => rfl
  | tail _ hstep ih =>
    obtain ⟨e, he, rfl⟩ := hstep
    rw [active_raise_of_ne (ne_of_mem_of_not_mem he hc), ih]

end

/-! ### Completed jars and the Outfeed Line -/

theorem pushJarFrame_raises (p : Word) (f : Frame) (s : State) :
    RaisesAmong [.linkBlocked] s.flt (pushJarFrame p f s).flt := by
  unfold pushJarFrame
  split <;> simp

theorem countRejectRun_raises (d : Disposition) (s : State) :
    RaisesAmong [.rejectRun] s.flt (countRejectRun d s).flt := by
  cases d with
  | pass | audit => simp [countRejectRun]
  | reject c =>
    simp only [countRejectRun]
    split <;> simp

/-- The codes that passing jars on can raise (R129, R144). -/
def passOnCodes : List FaultCode := [.rejectRun, .linkBlocked]

theorem completeJar_raises (j : Jar) (m : Option Int) (s : State) :
    RaisesAmong passOnCodes s.flt (completeJar j m s).flt := by
  have hrun (d : Disposition) (t : State) : RaisesAmong passOnCodes t.flt (countRejectRun d t).flt :=
    (countRejectRun_raises d t).mono (by decide)
  have hpush (p : Word) (f : Frame) (t : State) : RaisesAmong passOnCodes t.flt (pushJarFrame p f t).flt :=
    (pushJarFrame_raises p f t).mono (by decide)
  unfold completeJar
  refine RaisesAmong.trans ?_ (hpush _ _ _)
  exact hrun (disposeJar s j m).1 (s.setDsu { s.dsu with audit := (disposeJar s j m).2 })

theorem passOn_raises (j : Jar) (m : Option Int) (s : State) : RaisesAmong passOnCodes s.flt (passOn j m s).flt := by
  simpa [passOn] using completeJar_raises j m s

theorem removeOverdue_raises (s : State) : RaisesAmong passOnCodes s.flt (removeOverdue s).flt :=
  raisesAmong_foldl (fun t (e : OutfeedEntry) => passOn_raises e.jar none t) (raisesAmong_refl _ _)

theorem makeRoom_raises (s : State) : RaisesAmong passOnCodes s.flt (makeRoom s).flt := by
  unfold makeRoom
  split
  next e rest _ =>
    split
    · exact passOn_raises e.jar none (s.setOfl rest)
    · simp
  · simp

theorem joinOutfeed_raises (j : Jar) (s : State) : RaisesAmong passOnCodes s.flt (joinOutfeed j s).flt :=
  makeRoom_raises s

/-! ### The cycle by angle and the exit -/

/-- The codes of the apply angle (R41, R42). -/
def capCodes : List FaultCode := [.capTypeMismatch, .capMissing]

theorem applyPoint_raises (k : Fin 12) (s : State) : RaisesAmong capCodes s.flt (applyPoint k s).flt := by
  unfold applyPoint
  dsimp only
  (repeat' split) <;> simp [capCodes]

theorem headTransitions_raises (k : Fin 12) (s : State) : RaisesAmong capCodes s.flt (headTransitions k s).flt := by
  simpa [headTransitions] using applyPoint_raises k (closePoint k (openPoint k s))

theorem allTransitions_raises (s : State) : RaisesAmong capCodes s.flt (allTransitions s).flt :=
  raisesAmong_foldl (fun t k => headTransitions_raises k t) (raisesAmong_refl _ _)

/-- The codes that the exit of a pitch event can raise. -/
def exitCodes : List FaultCode := capCodes ++ passOnCodes

theorem serveExit_raises (k : Fin 12) (s : State) : RaisesAmong exitCodes s.flt (serveExit k s).flt := by
  have htransitions : RaisesAmong exitCodes s.flt (headTransitions k s).flt :=
    (headTransitions_raises k s).mono (by decide)
  have hremove (t : State) : RaisesAmong exitCodes t.flt (removeOverdue t).flt :=
    (removeOverdue_raises t).mono (by decide)
  unfold serveExit
  dsimp only
  split
  next j _ =>
    have hvacate : (vacate k (headTransitions k s)).flt = (headTransitions k s).flt := by simp
    have hjoin (t : State) : RaisesAmong exitCodes t.flt (joinOutfeed j t).flt := (joinOutfeed_raises j t).mono (by decide)
    exact (htransitions.trans (hvacate ▸ hremove _)).trans (hjoin _)
  · exact htransitions.trans (hremove _)

/-! ### The infeed -/

theorem loadTracked_raises (k : Fin 12) (r : JarRecord) (s : State) :
    RaisesAmong [.recipeUnusable] s.flt (loadTracked k r s).flt := by
  unfold loadTracked
  dsimp only
  (repeat' split) <;> simp

/-- The codes that the infeed match and the load can raise (R28, R29, R37). -/
def infeedCodes : List FaultCode := [.ghostRecord, .strayJar, .recipeUnusable]

theorem serveInfeed_raises (k : Fin 12) (s : State) : RaisesAmong infeedCodes s.flt (serveInfeed k s).flt := by
  unfold serveInfeed
  split
  next r _ _ => exact (loadTracked_raises k r (s.setIfq s.ifq.tail)).mono (by decide)
  next => simp [infeedCodes]
  next => split <;> simp [infeedCodes]
  next => simp

end Sys2Proof.Machine
end

section
/-! The Infeed Queue at a pitch event (R18, R25 to R30): what a forward report finds, what the removal behind P and the infeed
match leave queued, and the removal's INFEED_STALE. -/

namespace Sys2Proof.Machine

open Sys2Proof.Claims

/-! ### The order of the queue (R18) -/

theorem orderRecords_pairwise (p : Word) (rs : List JarRecord) :
    (orderRecords p rs).Pairwise (fun a b => recordOffset p a ≤ recordOffset p b) := by
  have htotal : Std.Total (fun a b => recordOffset p a ≤ recordOffset p b) := ⟨fun a b => Nat.le_total _ _⟩
  have htrans : IsTrans JarRecord (fun a b => recordOffset p a ≤ recordOffset p b) :=
    ⟨fun _ _ _ => Nat.le_trans⟩
  exact List.pairwise_insertionSort _ rs

/-- The first record with a property, in the order of offsets, has the least offset of those with the property: a record
that has it and that none of them precedes is of the same pitch. -/
theorem filter_orderRecords_eq_cons {p : Word} {rs : List JarRecord} {sel : JarRecord → Bool} {q : JarRecord}
    (hq : q ∈ rs) (hsel : sel q = true) (hleast : ∀ q' ∈ rs, sel q' = true → recordOffset p q ≤ recordOffset p q') :
    ∃ r rest, (orderRecords p rs).filter sel = r :: rest ∧ r.pitch = q.pitch := by
  have hmem (x : JarRecord) : x ∈ (orderRecords p rs).filter sel ↔ x ∈ rs ∧ sel x = true := by
    rw [List.mem_filter, (orderRecords_perm p rs).mem_iff]
  have hqmem := (hmem q).2 ⟨hq, hsel⟩
  cases hfilter : (orderRecords p rs).filter sel with
  | nil => simp [hfilter] at hqmem
  | cons r rest =>
    have hordered := (orderRecords_pairwise p rs).filter sel
    obtain ⟨hr, hrsel⟩ := (hmem r).1 (hfilter ▸ List.mem_cons_self)
    rw [hfilter] at hqmem hordered
    have hfirst : recordOffset p r ≤ recordOffset p q := by
      obtain rfl | hrest := List.mem_cons.1 hqmem
      · exact Nat.le_refl _
      · exact List.rel_of_pairwise_cons hordered hrest
    exact ⟨r, rest, rfl, (recordOffset_inj p r q).1 (Nat.le_antisymm hfirst (hleast r hr hrsel))⟩

/-! ### The removal behind P (R25, R26) -/

theorem purgeBehind_ifq (s : State) :
    (purgeBehind s).ifq = s.ifq.filter (fun r => !behind r.pitch s.ptk.p) :=
  foldl_keeps State.ifq (fun t (r : JarRecord) => t.raise .infeedStale (lowByte r.pitch)) (fun _ _ => rfl) _ _

theorem purgeIfSynced_of_synced {s : State} (h : s.ptk.sync = .synced) : purgeIfSynced s = purgeBehind s := if_pos h

theorem purgeIfSynced_of_unsynced {s : State} (h : s.ptk.sync = .unsynced) : purgeIfSynced s = s :=
  if_neg (by simp [h])

/-- Where records are behind P, the first of them in queue order enters INFEED_STALE (R26). -/
theorem purgeBehind_entered {s : State} {r : JarRecord} {rest : List JarRecord}
    (h : s.ifq.filter (fun r => behind r.pitch s.ptk.p) = r :: rest) :
    Entered s (purgeBehind s) .infeedStale (lowByte r.pitch) := by
  have hflt : RaisesAmong [.infeedStale] (s.flt.raise ⟨.infeedStale, s.ptk.p, lowByte r.pitch⟩) (purgeBehind s).flt := by
    unfold purgeBehind
    rw [h, List.foldl_cons]
    exact raisesAmong_foldl (fun _ _ => raisesAmong_raise (by simp)) (raisesAmong_refl _ _)
  refine ⟨hflt.active_of_active (active_raise_self _ _), fun hinactive => ?_⟩
  rw [(purgeBehind_frame s).1]
  exact hflt.held_subset (mem_held_raise.2 (.inr ⟨hinactive, rfl⟩))

/-- An entry made before raises at the same P is there after them. -/
theorem entered_of_raisesAmong {s t u : State} {codes : List FaultCode} {c : FaultCode} {d : Byte}
    (h : Entered s t c d) (hraises : RaisesAmong codes t.flt u.flt) (hp : u.ptk.p = t.ptk.p) : Entered s u c d :=
  ⟨hraises.active_of_active h.1, fun hinactive => hp ▸ hraises.held_subset (h.2 hinactive)⟩

/-! ### The infeed match (R27 to R30) -/

theorem oldestLevel_eq_some {s : State} {r : JarRecord} :
    oldestLevel s = some r ↔ ∃ rest, s.ifq = r :: rest ∧ r.pitch = s.ptk.p := by
  unfold oldestLevel
  cases s.ifq with
  | nil => simp
  | cons x xs =>
    simp only [Option.ite_none_right_eq_some, Option.some.injEq, List.cons.injEq]
    constructor
    · rintro ⟨hlevel, rfl⟩
      exact ⟨xs, ⟨rfl, rfl⟩, hlevel⟩
    · rintro ⟨_, ⟨rfl, -⟩, hlevel⟩
      exact ⟨hlevel, rfl⟩

@[simp] theorem serveInfeed_ifq (k : Fin 12) (s : State) :
    (serveInfeed k s).ifq = if (oldestLevel s).isSome then s.ifq.tail else s.ifq := by
  unfold serveInfeed
  split
  next hlevel _ => simp [hlevel]
  next hlevel _ => simp [hlevel]
  next hlevel _ => split <;> simp [hlevel]
  next hlevel _ => simp [hlevel]

/-- The match adds no record to the queue. -/
theorem serveInfeed_ifq_subset (k : Fin 12) (s : State) : (serveInfeed k s).ifq ⊆ s.ifq := by
  rw [serveInfeed_ifq]
  split
  · exact List.tail_subset _
  · exact List.Subset.refl _

/-- The match takes no record that is not level with P (R27). -/
theorem mem_serveInfeed_ifq {k : Fin 12} {s : State} {q : JarRecord} (hq : q ∈ s.ifq) (hne : q.pitch ≠ s.ptk.p) :
    q ∈ (serveInfeed k s).ifq := by
  rw [serveInfeed_ifq]
  cases hlevel : oldestLevel s with
  | none => exact hq
  | some r =>
    obtain ⟨rest, hifq, hr⟩ := oldestLevel_eq_some.1 hlevel
    rw [hifq] at hq ⊢
    exact (List.mem_cons.1 hq).resolve_left (fun heq => hne (heq ▸ hr))

/-! ### A forward report that is a pitch event -/

/-- The state in which a forward report's pitch event begins: the inputs taken, the count moved on and the turret MOVING
(R1, R3, R6). -/
def beforePitch (eye : Bool) (caps : BitVec 12) (s : State) : State :=
  startMoving ((senseTurret eye caps s).setPtk { s.ptk with turret := nextCount s })

/-- A forward report with a pitch due is the pitch event and then the transitions of all heads (R3, R38). -/
theorem exec_forward_pitchDue {eye : Bool} {caps : BitVec 12} {s : State} (h : PitchDue s) :
    exec (.encoderReport .forward eye caps) s = .next (allTransitions (pitchEvent (beforePitch eye caps s))) := by
  obtain ⟨⟨hturret, hbacklog⟩, hpitch⟩ := h
  have hstart : startMoving ((senseTurret eye caps s).setPtk
      { (senseTurret eye caps s).ptk with turret := ((senseTurret eye caps s).ptk.turret + 1) % 3600 }) =
      beforePitch eye caps s := by
    rw [beforePitch, ← succ_mod_eq_nextCount s hturret]
    rfl
  have hcount : (beforePitch eye caps s).ptk.turret % 300 = 0 := by simpa [beforePitch, startMoving_ptk] using hpitch
  have hadvance : turretAdvance (senseTurret eye caps s) = allTransitions (pitchEvent (beforePitch eye caps s)) := by
    simp only [turretAdvance, Config.countsPerRevolution, Config.countsPerPitch, hstart, if_pos hcount]
  rw [← hadvance, ← encoderReport_forward_front (s := senseTurret eye caps s) hbacklog]
  rfl

/-- What a pitch event finds of the tracker, the queue and the Fault List. -/
theorem beforePitch_finds (eye : Bool) (caps : BitVec 12) (s : State) :
    (beforePitch eye caps s).ptk.p = s.ptk.p ∧ (beforePitch eye caps s).ptk.sync = s.ptk.sync ∧
    (beforePitch eye caps s).ifq = s.ifq ∧ (beforePitch eye caps s).flt = s.flt := by
  simp [beforePitch, startMoving_ptk, senseTurret]

/-- The pitch event up to the stale removal: P is the new one and the queue stands in the order of its offsets (R3, R18). -/
def repitched (s : State) : State := clearPitchHolds (trackPitch s)

/-- What the pitch event's stale removal finds (R3, R18). -/
theorem repitched_finds (s : State) :
    (repitched s).ptk.p = s.ptk.p + 1 ∧ (repitched s).ptk.sync = s.ptk.sync ∧
    (repitched s).ifq = orderRecords (s.ptk.p + 1) s.ifq ∧ (repitched s).flt = s.flt := by
  simp [repitched, trackPitch, setPitch, chooseLead, measurePitch]

/-- The codes that a pitch event can raise after its stale removal. -/
def servingCodes : List FaultCode := infeedCodes ++ exitCodes

theorem serve_raises (k : Fin 12) (s : State) :
    RaisesAmong servingCodes s.flt (allTransitions (serveExit (k + 2) (serveInfeed k s))).flt := by
  have hinfeed := (serveInfeed_raises k s).mono (codes' := servingCodes) (by decide)
  have hexit := (serveExit_raises (k + 2) (serveInfeed k s)).mono (codes' := servingCodes) (by decide)
  have hheads := (allTransitions_raises (serveExit (k + 2) (serveInfeed k s))).mono (codes' := servingCodes) (by decide)
  exact (hinfeed.trans hexit).trans hheads

theorem pitchEvent_eq_serve (s : State) : ∃ k,
    pitchEvent s = serveExit (k + 2) (serveInfeed k (purgeIfSynced (repitched s))) :=
  ⟨infeedHead (purgeIfSynced (repitched s)), rfl⟩

/-- After its stale removal a report with a pitch event takes from the queue what the infeed match takes, and raises only
these codes. -/
theorem report_after_purge (s : State) : ∃ k,
    (allTransitions (pitchEvent s)).ifq = (serveInfeed k (purgeIfSynced (repitched s))).ifq ∧
    RaisesAmong servingCodes (purgeIfSynced (repitched s)).flt (allTransitions (pitchEvent s)).flt := by
  obtain ⟨k, hevent⟩ := pitchEvent_eq_serve s
  refine ⟨k, ?_, hevent ▸ serve_raises k _⟩
  simp only [allTransitions_frame, hevent, serveExit_frame]

theorem report_pitch (s : State) : (allTransitions (pitchEvent s)).ptk.p = s.ptk.p + 1 := by
  simp only [allTransitions_frame, pitchEvent_ptk]
  rfl

/-- SYNCED: the removal leaves no record behind the new P, and the rest of the report brings none back. -/
theorem report_synced_leaves_none_behind {s : State} (hsync : s.ptk.sync = .synced) :
    ∀ q ∈ (allTransitions (pitchEvent s)).ifq, behind q.pitch (s.ptk.p + 1) = false := by
  obtain ⟨hp, hsync', -, -⟩ := repitched_finds s
  obtain ⟨k, hifq, -⟩ := report_after_purge s
  intro q hq
  have hpurged := serveInfeed_ifq_subset _ _ (hifq ▸ hq)
  rw [purgeIfSynced_of_synced (hsync'.trans hsync), purgeBehind_ifq, List.mem_filter, hp] at hpurged
  simpa using hpurged.2

/-- SYNCED: of the records behind the new P the one first in queue order enters INFEED_STALE. -/
theorem report_synced_enters_stale {s : State} (hsync : s.ptk.sync = .synced) {q : JarRecord} (hq : q ∈ s.ifq)
    (hbehind : behind q.pitch (s.ptk.p + 1) = true)
    (hleast : ∀ q' ∈ s.ifq, behind q'.pitch (s.ptk.p + 1) = true →
      recordOffset (s.ptk.p + 1) q ≤ recordOffset (s.ptk.p + 1) q') :
    Entered s (allTransitions (pitchEvent s)) .infeedStale (lowByte q.pitch) := by
  obtain ⟨hp, hsync', hordered, hflt⟩ := repitched_finds s
  obtain ⟨k, -, hraises⟩ := report_after_purge s
  obtain ⟨r, rest, hfilter, hpitch⟩ :=
    filter_orderRecords_eq_cons (sel := fun r => behind r.pitch (s.ptk.p + 1)) hq hbehind hleast
  rw [← hordered, ← hp] at hfilter
  have hpurge := purgeBehind_entered hfilter
  rw [purgeIfSynced_of_synced (hsync'.trans hsync)] at hraises
  have hpitchKept : (allTransitions (pitchEvent s)).ptk.p = (purgeBehind (repitched s)).ptk.p := by
    rw [report_pitch, ← hp, (purgeBehind_frame _).1]
  have hentered := entered_of_raisesAmong hpurge hraises hpitchKept
  rwa [Entered, hflt, hpitch] at hentered

/-- UNSYNCED: a record not level with the new P stays queued. -/
theorem report_unsynced_keeps {s : State} (hsync : s.ptk.sync = .unsynced) {q : JarRecord} (hq : q ∈ s.ifq)
    (hne : q.pitch ≠ s.ptk.p + 1) : q ∈ (allTransitions (pitchEvent s)).ifq := by
  obtain ⟨hp, hsync', hordered, -⟩ := repitched_finds s
  obtain ⟨k, hifq, -⟩ := report_after_purge s
  rw [hifq, purgeIfSynced_of_unsynced (hsync'.trans hsync)]
  refine mem_serveInfeed_ifq ?_ (hp ▸ hne)
  rw [hordered]
  exact (orderRecords_perm _ _).mem_iff.2 hq

/-- UNSYNCED: nothing in the report raises INFEED_STALE. -/
theorem report_unsynced_stale_active {s : State} (hsync : s.ptk.sync = .unsynced) :
    (allTransitions (pitchEvent s)).flt.active .infeedStale = s.flt.active .infeedStale := by
  obtain ⟨-, hsync', -, hflt⟩ := repitched_finds s
  obtain ⟨k, -, hraises⟩ := report_after_purge s
  rw [purgeIfSynced_of_unsynced (hsync'.trans hsync), hflt] at hraises
  exact hraises.active_eq (by decide)

/-- Settles O9: a forward report with a pitch due is a pitch event, and its removal is settled in each sync state above. The
order of the queue before the event is not needed, as the event puts it in order itself (R18). -/
theorem staleRecordsRemoved : Obligations.StaleRecordsRemoved := by
  intro eye caps s hdue _
  obtain ⟨hp, hsync, hifq, hflt⟩ := beforePitch_finds eye caps s
  refine ⟨_, exec_forward_pitchDue hdue, fun hsynced => ⟨?noneBehind, ?stale⟩, fun hunsynced => ⟨?kept, ?notRaised⟩⟩
  case noneBehind =>
    rw [report_pitch]
    exact report_synced_leaves_none_behind (hsync.trans hsynced)
  case stale =>
    rw [report_pitch]
    intro q hq hbehind hleast
    have hentered := report_synced_enters_stale (hsync.trans hsynced) (hifq ▸ hq) hbehind (hifq ▸ hleast)
    rwa [Entered, hflt] at hentered
  case kept =>
    rw [report_pitch]
    exact fun q hq hne => report_unsynced_keeps (hsync.trans hunsynced) (hifq ▸ hq) hne
  case notRaised => rw [report_unsynced_stale_active (hsync.trans hunsynced), hflt]

end Sys2Proof.Machine
end

section
/-! Jars counted in flight (R92): what a change of one head does to the number of heads that hold a tagged jar. -/

namespace Sys2Proof.Machine

/-- A head holds a tracked jar tagged with a bank. -/
def Head.holdsTagged (h : Head) (i : BankId) : Bool :=
  match h.jar with
  | some j => taggedWith i j
  | none => false

@[simp] theorem Head.holdsTagged_of_jar {h : Head} {j : Jar} (hj : h.jar = some j) (i : BankId) :
    h.holdsTagged i = taggedWith i j := by
  simp [Head.holdsTagged, hj]

@[simp] theorem Head.holdsTagged_of_none {h : Head} (hj : h.jar = none) (i : BankId) : h.holdsTagged i = false := by
  simp [Head.holdsTagged, hj]

theorem headsTagged_eq_countP (s : State) (i : BankId) :
    headsTagged s i = allHeads.countP (fun k => (s.head k).holdsTagged i) := rfl

theorem mem_allHeads (k : Fin 12) : k ∈ allHeads := by
  revert k
  decide

theorem allHeads_nodup : allHeads.Nodup := by decide

/-- The count of tagged heads, with one head counted apart. -/
theorem headsTagged_split (s : State) (i : BankId) (k : Fin 12) :
    headsTagged s i =
      (allHeads.erase k).countP (fun l => (s.head l).holdsTagged i) + if (s.head k).holdsTagged i then 1 else 0 := by
  rw [headsTagged_eq_countP, (List.perm_cons_erase (mem_allHeads k)).countP_eq, List.countP_cons]

/-- Where one head changes, the count changes by what that head held and holds. -/
theorem headsTagged_of_others {s t : State} {k : Fin 12} (hothers : ∀ l, l ≠ k → t.head l = s.head l) (i : BankId) :
    headsTagged t i + (if (s.head k).holdsTagged i then 1 else 0) =
      headsTagged s i + if (t.head k).holdsTagged i then 1 else 0 := by
  have hrest : (allHeads.erase k).countP (fun l => (t.head l).holdsTagged i) =
      (allHeads.erase k).countP (fun l => (s.head l).holdsTagged i) :=
    List.countP_congr fun l hl => by rw [hothers l (allHeads_nodup.mem_erase_iff.1 hl).1]
  rw [headsTagged_split s i k, headsTagged_split t i k, hrest]
  omega

theorem headsTagged_congr {s t : State} (h : t.heads = s.heads) (i : BankId) : headsTagged t i = headsTagged s i := by
  simp [headsTagged_eq_countP, head_congr h]

theorem headsTagged_pos {s : State} {k : Fin 12} {i : BankId} (h : (s.head k).holdsTagged i = true) :
    0 < headsTagged s i :=
  List.countP_pos_iff.2 ⟨k, mem_allHeads k, h⟩

/-- A jar reads the same field where its tagged bank keeps its words (R35, R87). -/
theorem jarField_congr {r r' : Rcs} {j : Jar} (h : ∀ i, j.tag = some i → (r'.bank i).words = (r.bank i).words)
    (f : RecipeField) : r'.jarField j f = r.jarField j f := by
  unfold Rcs.jarField
  split
  next i htag => rw [h i htag]
  · rfl

end Sys2Proof.Machine
end

section
/-! The invariant behind R56: each head's valve, state and jar are in step, and each bank counts at least the jars tagged with
it on the heads, in the Outfeed Line and between the two. The counts are what keeps a jar's flush time: a bank's words change
only while no jar is counted under it. -/

namespace Sys2Proof.Machine

open Sys2Proof.Claims

/-! ### One head -/

/-- The head is FLUSHING and its flush is below its target (R56). -/
def FlushesBelowTarget (r : Rcs) (h : Head) : Prop :=
  ∃ j, h.jar = some j ∧ h.state = .flushing ∧
    (r.jarField j .flushTime = 0 ∨ j.flushAccrued < r.jarField j .flushTime)

/-- A jar is in step with the state of the head that holds it (R33, R35, R55). -/
structure JarSound (st : HeadState) (j : Jar) : Prop where
  tagTracked : j.tag ≠ none → j.tracked = true
  loadedDry : st = .loaded → j.flushAccrued = 0
  settledJudged : st = .settled ↔ j.closure ≠ .pending

/-- A head is in step with its valve and its jar, under the recipes and the motion state that stand (R56). -/
structure HeadSound (r : Rcs) (m : Motion) (h : Head) (valve : Bool) : Prop where
  valveFollows : valve = true ↔ m = .moving ∧ FlushesBelowTarget r h
  flushingHolds : h.state = .flushing → h.jar ≠ none
  jarSound : ∀ j, h.jar = some j → JarSound h.state j

section
variable {r r' : Rcs} {m : Motion} {h h' : Head} {v : Bool} {j j' : Jar}

theorem FlushesBelowTarget.flushing (hb : FlushesBelowTarget r h) : h.state = .flushing := by
  obtain ⟨_, _, hstate, _⟩ := hb
  exact hstate

theorem flushesBelowTarget_iff (hj : h.jar = some j) :
    FlushesBelowTarget r h ↔ h.state = .flushing ∧
      (r.jarField j .flushTime = 0 ∨ j.flushAccrued < r.jarField j .flushTime) := by
  simp [FlushesBelowTarget, hj]

/-- The three conditions of R56 as `ValvesFollow` words them, on a head that holds a jar while it is FLUSHING. -/
theorem openConditions_iff (hholds : h.state = .flushing → h.jar ≠ none) :
    (h.state = .flushing ∧ m = .moving ∧
      ∀ j, h.jar = some j → r.jarField j .flushTime = 0 ∨ j.flushAccrued < r.jarField j .flushTime) ↔
    m = .moving ∧ FlushesBelowTarget r h := by
  cases hj : h.jar with
  | none =>
    have hne : h.state ≠ .flushing := fun hf => hholds hf hj
    simp [FlushesBelowTarget, hj, hne]
  | some j =>
    rw [flushesBelowTarget_iff hj]
    simp only [Option.some.injEq, forall_eq']
    exact and_left_comm

/-- The valve of a head that is not FLUSHING is CLOSED. -/
theorem HeadSound.valve_eq_false (hs : HeadSound r m h v) (hne : h.state ≠ .flushing) : v = false :=
  Bool.eq_false_iff.2 fun hv => hne (hs.valveFollows.1 hv).2.flushing

/-- A head that is not FLUSHING, with its valve CLOSED, is in step when its jar is. -/
theorem headSound_closed (hne : h.state ≠ .flushing) (hjar : ∀ j, h.jar = some j → JarSound h.state j) :
    HeadSound r m h false :=
  ⟨by simpa using fun _ hb => hne hb.flushing, fun hf => absurd hf hne, hjar⟩

/-- A head moves from a state to a state, neither of them FLUSHING: the valve stays CLOSED. -/
theorem HeadSound.notFlushing (hs : HeadSound r m h v) (hne : h.state ≠ .flushing) (hne' : h'.state ≠ .flushing)
    (hjar : ∀ j, h'.jar = some j → JarSound h'.state j) : HeadSound r m h' v :=
  hs.valve_eq_false hne ▸ headSound_closed hne' hjar

/-- A head stays in step where its jar reads the same flush time. -/
theorem HeadSound.rcs_congr (hs : HeadSound r m h v)
    (hfield : ∀ j, h.jar = some j → r'.jarField j .flushTime = r.jarField j .flushTime) : HeadSound r' m h v := by
  refine ⟨hs.valveFollows.trans ?_, hs.flushingHolds, hs.jarSound⟩
  cases hj : h.jar with
  | none => simp [FlushesBelowTarget, hj]
  | some j => rw [flushesBelowTarget_iff hj, flushesBelowTarget_iff hj, hfield j hj]

/-- A jar whose closure result is decided belongs to a SETTLED head. -/
theorem JarSound.settle {st : HeadState} (hs : JarSound st j) (htag : j'.tag = j.tag) (htracked : j'.tracked = j.tracked)
    (hclosure : j'.closure ≠ .pending) : JarSound .settled j' :=
  ⟨by rw [htag, htracked]; exact hs.tagTracked, by simp, by simpa using hclosure⟩

/-- A jar still PENDING goes with its head to a state after LOADED and before SETTLED. -/
theorem JarSound.advance {st st' : HeadState} (hs : JarSound st j) (hst : st ≠ .settled) (hloaded : st' ≠ .loaded)
    (hsettled : st' ≠ .settled) (htag : j'.tag = j.tag) (htracked : j'.tracked = j.tracked)
    (hclosure : j'.closure = j.closure) : JarSound st' j' :=
  ⟨by rw [htag, htracked]; exact hs.tagTracked, fun h => absurd h hloaded,
    by rw [hclosure, ← hs.settledJudged]; exact iff_of_false hsettled hst⟩

end

/-! ### The station -/

/-- Every head is in step, and each bank's in-flight count covers the tagged jars on the heads, in the Outfeed Line and in
`hand`, the jars that have left a place and are still counted. A SPARE bank counts none (R91, R92). -/
structure FlushSound (hand : List Jar) (s : State) : Prop where
  heads : ∀ k, HeadSound s.rcs s.ptk.motion (s.head k) (s.valve k)
  counted : ∀ i, headsTagged s i + entriesTagged s i + hand.countP (taggedWith i) ≤ (s.rcs.bank i).inFlight
  spareFree : s.rcs.retiring = false → (s.rcs.bank s.rcs.live.other).inFlight = 0

/-- The premises of the statement give the invariant. -/
theorem flushSound_of_premises {s : State} (hvalves : ValvesFollow s) (hjars : JarsConsistent s)
    (hstates : JarsMatchStates s) (hcounts : CountsMatchJars s) : FlushSound [] s where
  heads k := by
    have hholds : (s.head k).state = .flushing → (s.head k).jar ≠ none := fun hf hnone => by
      simp [(hstates k).1 hnone] at hf
    refine ⟨(hvalves k).trans (openConditions_iff hholds), hholds, fun j hj => ?_⟩
    obtain ⟨htag, hdry, hsettled⟩ := hjars k j hj
    exact ⟨htag, hdry, hsettled⟩
  counted i := (hcounts.1 i).ge
  spareFree hr := by
    by_contra hpos
    simp [hcounts.2.2 (Nat.pos_of_ne_zero hpos)] at hr

theorem FlushSound.valvesFollow {hand : List Jar} {s : State} (hs : FlushSound hand s) : ValvesFollow s := by
  intro k
  exact (hs.heads k).valveFollows.trans (openConditions_iff (hs.heads k).flushingHolds).symm

theorem FlushSound.jarsConsistent {hand : List Jar} {s : State} (hs : FlushSound hand s) : JarsConsistent s := by
  intro k j hj
  obtain ⟨htag, hdry, hsettled⟩ := (hs.heads k).jarSound j hj
  exact ⟨htag, hdry, hsettled⟩

section
variable {hand hand' : List Jar} {s t : State}

/-- The invariant reads five blocks. -/
theorem FlushSound.congr (hs : FlushSound hand s) (hheads : t.heads = s.heads) (hvalves : t.valves = s.valves)
    (hmotion : t.ptk.motion = s.ptk.motion) (hrcs : t.rcs = s.rcs) (hofl : t.ofl = s.ofl) : FlushSound hand t where
  heads k := by
    rw [hrcs, hmotion, head_congr hheads, valve_congr hvalves]
    exact hs.heads k
  counted i := by
    rw [headsTagged_congr hheads, entriesTagged, hofl, hrcs]
    exact hs.counted i
  spareFree := by
    rw [hrcs]
    exact hs.spareFree

/-- Of the Pitch Tracker the invariant reads the motion state alone. -/
theorem flushSound_setPtk (hs : FlushSound hand s) {p : Ptk} (hmotion : p.motion = s.ptk.motion) :
    FlushSound hand (s.setPtk p) :=
  hs.congr rfl rfl hmotion rfl rfl

theorem flushSound_setIfq (hs : FlushSound hand s) (q : List JarRecord) : FlushSound hand (s.setIfq q) :=
  hs.congr rfl rfl rfl rfl rfl

theorem flushSound_setSpu (hs : FlushSound hand s) (u : Spu) : FlushSound hand (s.setSpu u) :=
  hs.congr rfl rfl rfl rfl rfl

theorem flushSound_setSpindle (hs : FlushSound hand s) (l : Fin 12) (v : Spindle) : FlushSound hand (s.setSpindle l v) :=
  flushSound_setSpu hs _

theorem flushSound_setScu (hs : FlushSound hand s) (u : Scu) : FlushSound hand (s.setScu u) :=
  hs.congr rfl rfl rfl rfl rfl

theorem flushSound_setDsu (hs : FlushSound hand s) (d : Dsu) : FlushSound hand (s.setDsu d) :=
  hs.congr rfl rfl rfl rfl rfl

theorem flushSound_setLif (hs : FlushSound hand s) (l : Lif) : FlushSound hand (s.setLif l) :=
  hs.congr rfl rfl rfl rfl rfl

theorem flushSound_setPins (hs : FlushSound hand s) (p : Pins) : FlushSound hand (s.setPins p) :=
  hs.congr rfl rfl rfl rfl rfl

theorem flushSound_setFlt (hs : FlushSound hand s) (l : FaultList) : FlushSound hand (s.setFlt l) :=
  hs.congr rfl rfl rfl rfl rfl

theorem flushSound_raise (hs : FlushSound hand s) (c : FaultCode) (d : Byte) : FlushSound hand (s.raise c d) :=
  flushSound_setFlt hs _

/-- One head and its valve change: the head has to be in step, and the jars it takes come out of hand. -/
theorem FlushSound.of_others (hs : FlushSound hand s) (k : Fin 12)
    (hothers : ∀ l, l ≠ k → t.head l = s.head l ∧ t.valve l = s.valve l)
    (hmotion : t.ptk.motion = s.ptk.motion) (hrcs : t.rcs = s.rcs) (hofl : t.ofl = s.ofl)
    (hhead : HeadSound s.rcs s.ptk.motion (t.head k) (t.valve k))
    (hcount : ∀ i, (if (t.head k).holdsTagged i then 1 else 0) + hand'.countP (taggedWith i) ≤
      (if (s.head k).holdsTagged i then 1 else 0) + hand.countP (taggedWith i)) : FlushSound hand' t where
  heads l := by
    rw [hrcs, hmotion]
    by_cases hl : l = k
    · exact hl ▸ hhead
    · rw [(hothers l hl).1, (hothers l hl).2]
      exact hs.heads l
  counted i := by
    have hchange := headsTagged_of_others (fun l hl => (hothers l hl).1) i
    have hbefore := hs.counted i
    have hhand := hcount i
    rw [entriesTagged, hofl, hrcs, ← entriesTagged]
    omega
  spareFree := by
    rw [hrcs]
    exact hs.spareFree

/-- A head and its valve are set, the head holding no jar more under any bank than before. -/
theorem FlushSound.setHead_setValve (hs : FlushSound hand s) (k : Fin 12) {h : Head} {v : Bool}
    (hhead : HeadSound s.rcs s.ptk.motion h v) (hkeeps : ∀ i, h.holdsTagged i = true → (s.head k).holdsTagged i = true) :
    FlushSound hand ((s.setHead k h).setValve k v) := by
  refine hs.of_others k (fun l hl => ?_) rfl rfl rfl (by simpa using hhead) fun i => ?_
  · simp [hl.symm]
  · have := hkeeps i
    simp only [head_setValve, head_setHead_same]
    split <;> simp_all

/-- A head is set under the valve that stands. -/
theorem FlushSound.setHead (hs : FlushSound hand s) (k : Fin 12) {h : Head}
    (hhead : HeadSound s.rcs s.ptk.motion h (s.valve k))
    (hkeeps : ∀ i, h.holdsTagged i = true → (s.head k).holdsTagged i = true) : FlushSound hand (s.setHead k h) := by
  refine (hs.setHead_setValve k hhead hkeeps).congr rfl ?_ rfl rfl rfl
  simp [State.setValve, State.valve]

/-- The Recipe Store changes: the new counts have to cover the jars, and a bank that counts a jar keeps its words. -/
theorem FlushSound.setRcs (hs : FlushSound hand s) {r : Rcs}
    (hcounted : ∀ i, headsTagged s i + entriesTagged s i + hand'.countP (taggedWith i) ≤ (r.bank i).inFlight)
    (hspare : r.retiring = false → (r.bank r.live.other).inFlight = 0)
    (hwords : ∀ i, 0 < (r.bank i).inFlight → (r.bank i).words = (s.rcs.bank i).words) : FlushSound hand' (s.setRcs r) where
  heads k := by
    refine (hs.heads k).rcs_congr fun j hj => jarField_congr (fun i htag => hwords i ?_) _
    have htracked := ((hs.heads k).jarSound j hj).tagTracked (by simp [htag])
    have hpos : 0 < headsTagged s i := headsTagged_pos (k := k) (by simp [hj, taggedWith, htag, htracked])
    have := hcounted i
    omega
  counted := hcounted
  spareFree := hspare

/-- A Recipe Store with the same banks: roles, signature and cursors may differ. -/
theorem FlushSound.setRcs_of_banks (hs : FlushSound hand s) {r : Rcs} (hbank : ∀ i, r.bank i = s.rcs.bank i)
    (hspare : r.retiring = false → (r.bank r.live.other).inFlight = 0) : FlushSound hand (s.setRcs r) :=
  hs.setRcs (fun i => by rw [hbank]; exact hs.counted i) hspare fun i _ => by rw [hbank]

/-- A station with no jar on a head or in the Outfeed Line and every valve CLOSED is in step. -/
theorem flushSound_of_empty (hhead : ∀ k, (s.head k).state = .empty ∧ (s.head k).jar = none)
    (hvalve : ∀ k, s.valve k = false) (hofl : s.ofl = [])
    (hspare : s.rcs.retiring = false → (s.rcs.bank s.rcs.live.other).inFlight = 0) : FlushSound [] s where
  heads k := by
    rw [hvalve]
    exact headSound_closed (by simp [hhead]) (by simp [hhead])
  counted i := by simp [headsTagged_eq_countP, entriesTagged, hofl, hhead]
  spareFree := hspare

end

end Sys2Proof.Machine
end

section
/-! The invariant through one head's events: the cycle by angle (R38), the flush tick (R58), the head bus (R73 to R79) and the
out-of-service report (R50). -/

namespace Sys2Proof.Machine

section
variable {hand : List Jar} {s : State} {k : Fin 12} {j : Jar}

/-- A head that holds the same jar, or one of the same tag, counts under no other bank. -/
theorem holdsTagged_of_sameTag {h h' : Head} {j' : Jar} (hj : h.jar = some j) (hj' : h'.jar = some j')
    (htag : j'.tag = j.tag) (htracked : j'.tracked = j.tracked) (i : BankId) :
    h'.holdsTagged i = true → h.holdsTagged i = true := by
  rw [Head.holdsTagged_of_jar hj, Head.holdsTagged_of_jar hj', taggedWith, taggedWith, htag, htracked]
  exact id

/-- A head that is not FLUSHING settles. -/
theorem flushSound_settleHead (hs : FlushSound hand s) {j' : Jar} {c : Closure} (hj : (s.head k).jar = some j)
    (hne : (s.head k).state ≠ .flushing) (htag : j'.tag = j.tag) (htracked : j'.tracked = j.tracked)
    (hc : c ≠ .pending) : FlushSound hand (settleHead k j' c s) := by
  refine hs.setHead k ((hs.heads k).notFlushing hne (by simp) fun x hx => ?_)
    (holdsTagged_of_sameTag hj rfl htag htracked)
  obtain rfl := Option.some.inj hx
  exact ((hs.heads k).jarSound j hj).settle htag htracked hc

/-- A head before SETTLED moves to a later state before SETTLED, neither FLUSHING, and keeps its jar. -/
theorem flushSound_setState (hs : FlushSound hand s) {st : HeadState} (hne : (s.head k).state ≠ .flushing)
    (hunsettled : (s.head k).state ≠ .settled) (hst : st ≠ .flushing) (hloaded : st ≠ .loaded) (hsettled : st ≠ .settled) :
    FlushSound hand (s.setHead k { s.head k with state := st }) :=
  hs.setHead k
    ((hs.heads k).notFlushing hne hst fun x hx =>
      ((hs.heads k).jarSound x hx).advance hunsettled hloaded hsettled rfl rfl rfl)
    fun _ h => h

/-- A jar's record of its torque and of its missed samples is no part of the invariant (R76, R77). -/
theorem flushSound_setMeasured (hs : FlushSound hand s) (hj : (s.head k).jar = some j) (torque missed : Nat) :
    FlushSound hand (s.setHead k { s.head k with jar := some { j with maxTorque := torque, missed := missed } }) := by
  have hhead := hs.heads k
  have hjar := hhead.jarSound j hj
  refine hs.setHead k ⟨hhead.valveFollows.trans ?_, by simp, fun x hx => ?_⟩ (holdsTagged_of_sameTag hj rfl rfl rfl)
  · rw [flushesBelowTarget_iff hj, flushesBelowTarget_iff rfl]
    exact Iff.rfl
  · obtain rfl := Option.some.inj hx
    exact ⟨hjar.tagTracked, hjar.loadedDry, hjar.settledJudged⟩

/-! ### The cycle by angle -/

/-- R57: the accumulator of a LOADED head is 0 and the turret is MOVING, so the valve opens with all three conditions. -/
theorem flushSound_openPoint (k : Fin 12) (hs : FlushSound hand s) (hmoving : s.ptk.motion = .moving) :
    FlushSound hand (openPoint k s) := by
  unfold openPoint
  split
  next j hj =>
    split
    next hopen =>
      have hjar := (hs.heads k).jarSound j hj
      have hbelow : FlushesBelowTarget s.rcs { s.head k with state := .flushing } :=
        ⟨j, hj, rfl, by have := hjar.loadedDry hopen.1; omega⟩
      refine hs.setHead_setValve k ⟨by simp [hmoving, hbelow], by simp [hj], fun x hx => ?_⟩ fun _ h => h
      exact ((hs.heads k).jarSound x hx).advance (by simp [hopen.1]) (by simp) (by simp) rfl rfl rfl
    next => exact hs
  next => exact hs

/-- R60: the head leaves FLUSHING with its valve CLOSED. -/
theorem flushSound_closePoint (k : Fin 12) (hs : FlushSound hand s) : FlushSound hand (closePoint k s) := by
  unfold closePoint
  split
  next j hj =>
    split
    next hclose =>
      refine hs.setHead_setValve k (headSound_closed (by simp) fun x hx => ?_) (holdsTagged_of_sameTag hj rfl rfl rfl)
      obtain rfl := Option.some.inj hx
      exact ((hs.heads k).jarSound j hj).advance (by simp [hclose.1]) (by simp) (by simp) rfl rfl rfl
    next => exact hs
  next => exact hs

theorem flushSound_applyPoint (k : Fin 12) (hs : FlushSound hand s) : FlushSound hand (applyPoint k s) := by
  unfold applyPoint
  dsimp only
  split
  next j hj =>
    split
    next hflushed =>
      have hsettle := flushSound_settleHead hs (j' := j) (c := .notCapped) hj (by simp [hflushed.1]) rfl rfl (by simp)
      split
      next => exact flushSound_raise hsettle _ _
      next =>
        split
        · exact flushSound_setState hs (by simp [hflushed.1]) (by simp [hflushed.1]) (by simp) (by simp) (by simp)
        · exact flushSound_raise hsettle _ _
    next => exact hs
  next => exact hs

theorem flushSound_torqueStartPoint (k : Fin 12) (hs : FlushSound hand s) : FlushSound hand (torqueStartPoint k s) := by
  unfold torqueStartPoint
  split
  next j hj =>
    split
    next hcapped =>
      refine flushSound_setSpindle ?_ _ _
      exact flushSound_setState hs (by simp [hcapped.1]) (by simp [hcapped.1]) (by simp) (by simp) (by simp)
    next => exact hs
  next => exact hs

theorem flushSound_torqueEndPoint (k : Fin 12) (hs : FlushSound hand s) : FlushSound hand (torqueEndPoint k s) := by
  unfold torqueEndPoint
  split
  next j hj =>
    split
    next htorquing => exact flushSound_settleHead hs hj (by simp [htorquing.1]) rfl rfl (by simp)
    next => exact hs
  next => exact hs

/-- The rows of R38 in their order; the motion state is read at the first alone. -/
theorem flushSound_headTransitions (k : Fin 12) (hs : FlushSound hand s) (hmoving : s.ptk.motion = .moving) :
    FlushSound hand (headTransitions k s) :=
  flushSound_torqueEndPoint k <| flushSound_torqueStartPoint k <| flushSound_applyPoint k <| flushSound_closePoint k <|
    flushSound_openPoint k hs hmoving

/-! ### The flush tick -/

/-- R58: a tick that does not bring a flush to its target leaves it below. -/
theorem accrue_below_target {ft accrued : Nat} (hbelow : ft = 0 ∨ accrued < ft)
    (hnot : ¬(ft ≠ 0 ∧ accrue ft accrued = ft)) : ft = 0 ∨ accrue ft accrued < ft := by
  unfold accrue at hnot ⊢
  split
  next hzone => exact .inl hzone
  next htimed =>
    rw [if_neg htimed] at hnot
    omega

/-- R58: a flush that reaches its target ends with its valve CLOSED; below the target the valve stays OPEN. -/
theorem flushSound_flushHead (k : Fin 12) (hs : FlushSound hand s) : FlushSound hand (flushHead k s) := by
  unfold flushHead
  dsimp only
  split
  next j hj =>
    split
    next hopen =>
      obtain ⟨hvalve, hflushing⟩ := hopen
      have hhead := hs.heads k
      obtain ⟨hmoving, hbelow⟩ := hhead.valveFollows.1 hvalve
      have htarget := ((flushesBelowTarget_iff hj).1 hbelow).2
      have hjar := hhead.jarSound j hj
      split
      next =>
        refine hs.setHead_setValve k (headSound_closed (by simp) fun x hx => ?_) (holdsTagged_of_sameTag hj rfl rfl rfl)
        obtain rfl := Option.some.inj hx
        exact hjar.advance (by simp [hflushing]) (by simp) (by simp) rfl rfl rfl
      next hbefore =>
        refine hs.setHead k ⟨?_, by simp, fun x hx => ?_⟩ (holdsTagged_of_sameTag hj rfl rfl rfl)
        · exact iff_of_true hvalve ⟨hmoving, _, rfl, hflushing, accrue_below_target htarget hbefore⟩
        · obtain rfl := Option.some.inj hx
          exact hjar.advance (by simp [hflushing]) (by simp [hflushing]) (by simp [hflushing]) rfl rfl rfl
    next => exact hs
  next => exact hs

theorem flushSound_flushTick (hs : FlushSound hand s) : FlushSound hand (flushTick s) := by
  unfold flushTick
  split
  · exact List.foldlRecOn allHeads (fun t k => flushHead k t) hs fun t ht l _ => flushSound_flushHead l ht
  · split
    · exact flushSound_raise hs _ _
    · exact hs

/-! ### Out of service and the head bus -/

theorem reportedJar_sameTag (st : HeadState) (angle : Nat) (j : Jar) :
    (reportedJar st angle j).tag = j.tag ∧ (reportedJar st angle j).tracked = j.tracked := by
  unfold reportedJar
  split <;> exact ⟨rfl, rfl⟩

/-- R50: a jar still PENDING settles with HEAD_LOST; a jar already judged stays with its SETTLED head. -/
theorem headSound_reportedHead {r : Rcs} {m : Motion} {h : Head} {v : Bool} (angle : Nat) (hs : HeadSound r m h v) :
    HeadSound r m (reportedHead angle h) false := by
  unfold reportedHead
  split
  next j hj =>
    have hjar := hs.jarSound j hj
    by_cases hpending : j.closure = .pending
    · refine headSound_closed (by simp [hpending]) fun x hx => ?_
      obtain rfl := Option.some.inj hx
      simp only [reportedJar, hpending, if_true]
      exact hjar.settle rfl rfl (by simp)
    · have hsettled := hjar.settledJudged.2 hpending
      refine headSound_closed (by simp [hpending, hsettled]) fun x hx => ?_
      obtain rfl := Option.some.inj hx
      simpa [reportedJar, hpending] using hjar
  next hj => exact headSound_closed (fun hf => hs.flushingHolds hf hj) hs.jarSound

/-- R50, R65: the valve of the head reported closes. -/
theorem flushSound_outOfServiceReport (k : Fin 12) (hs : FlushSound hand s) :
    FlushSound hand (outOfServiceReport k s) := by
  refine flushSound_setSpindle (hs.setHead_setValve k (headSound_reportedHead _ (hs.heads k)) ?_) _ _
  unfold reportedHead
  split
  next j hj =>
    obtain ⟨htag, htracked⟩ := reportedJar_sameTag (s.head k).state (s.spindle k).lastAngle j
    exact holdsTagged_of_sameTag hj rfl htag htracked
  next => exact fun _ h => h

/-- A judged reply settles a TORQUING head or writes its max torque (R74 to R76). -/
theorem flushSound_judgeReply (hs : FlushSound hand s) (hj : (s.head k).jar = some j)
    (htorquing : (s.head k).state = .torquing) (torque angle : Nat) : FlushSound hand (judgeReply k j torque angle s) := by
  have hsettle {t : State} {j' : Jar} {c : Closure} (ht : FlushSound hand t) (hhead : t.head k = s.head k)
      (htag : j'.tag = j.tag) (htracked : j'.tracked = j.tracked) (hc : c ≠ .pending) :
      FlushSound hand (settleBySpindle k j' c angle t) :=
    flushSound_settleHead ht (hhead ▸ hj) (by simp [hhead, htorquing]) htag htracked hc
  have hmeasured (v : Spindle) : FlushSound hand ((s.setSpindle k v).setHead k
      { s.head k with jar := some { j with maxTorque := max j.maxTorque torque } }) :=
    flushSound_setMeasured (flushSound_setSpindle hs k v) hj _ j.missed
  unfold judgeReply
  dsimp only
  split
  · exact hsettle hs rfl rfl rfl (by simp)
  split
  · exact hsettle hs rfl rfl rfl (by simp)
  split
  · split
    · exact hsettle (flushSound_setSpindle hs _ _) rfl rfl rfl (by simp)
    · exact hmeasured _
  · exact hmeasured _

theorem flushSound_takeOkReply (k : Fin 12) (hs : FlushSound hand s) (torque angle : Nat) :
    FlushSound hand (takeOkReply k torque angle s) := by
  have hreply := flushSound_setSpindle hs k { s.spindle k with misses := 0, lastTorque := torque }
  unfold takeOkReply
  dsimp only
  split
  next j hstate hj =>
    split
    · exact flushSound_judgeReply (flushSound_setSpindle hreply _ _) hj hstate torque angle
    · exact hreply
  next => exact hreply

theorem flushSound_takeFaultReply (k : Fin 12) (hs : FlushSound hand s) : FlushSound hand (takeFaultReply k s) :=
  flushSound_outOfServiceReport k <| flushSound_setSpindle (flushSound_raise hs _ _) _ _

theorem flushSound_countJarMiss (k : Fin 12) (hs : FlushSound hand s) :
    FlushSound hand (s.setHead k (countJarMiss (s.head k))) := by
  unfold countJarMiss
  split
  next j hj => exact flushSound_setMeasured hs hj j.maxTorque _
  next => exact hs.setHead k (hs.heads k) fun _ h => h

theorem flushSound_takeMiss (k : Fin 12) (hs : FlushSound hand s) : FlushSound hand (takeMiss k s) := by
  unfold takeMiss
  dsimp only
  split
  · have hcounted (v : Spindle) : FlushSound hand ((s.setSpindle k v).setHead k (countJarMiss (s.head k))) :=
      flushSound_countJarMiss k (flushSound_setSpindle hs k v)
    split
    · exact flushSound_outOfServiceReport k (flushSound_raise (hcounted _) _ _)
    · exact hcounted _
  · exact hs

theorem flushSound_takeSlot (k : Fin 12) (o : SlotOutcome) (hs : FlushSound hand s) : FlushSound hand (takeSlot k o s) := by
  cases o with
  | okReply torque angle => exact flushSound_takeOkReply k hs torque angle
  | faultReply => exact flushSound_takeFaultReply k hs
  | missed => exact flushSound_takeMiss k hs

end

end Sys2Proof.Machine
end

section
/-! The invariant through the counted places: the Outfeed Line (R106 to R109), the load at the infeed (R34 to R37) and the
exit (R47). A jar in hand keeps its count until its place or its removal takes it. -/

namespace Sys2Proof.Machine

section
variable {hand hand' : List Jar} {s : State} {k : Fin 12} {j : Jar}

/-! ### The Recipe Store's counts -/

/-- A bank under a new count keeps its words. -/
theorem words_setBank_inFlight (r : Rcs) (i l : BankId) (n : Nat) :
    ((r.setBank i { r.bank i with inFlight := n }).bank l).words = (r.bank l).words := by
  rw [bank_setBank]
  split
  next h => rw [h]
  next => rfl

/-- A bank under new words keeps its count. -/
theorem inFlight_setBank_words (r : Rcs) (i l : BankId) (words : Vector Word 160) :
    ((r.setBank i { r.bank i with words := words }).bank l).inFlight = (r.bank l).inFlight := by
  rw [bank_setBank]
  split
  next h => rw [h]
  next => rfl

/-- The words of a bank that is not LIVE change while it counts no jar (R94, R95). -/
theorem FlushSound.setSpareWords (hs : FlushSound hand s) (hfree : (s.rcs.bank s.rcs.live.other).inFlight = 0)
    (words : Vector Word 160) : FlushSound hand
      (s.setRcs (s.rcs.setBank s.rcs.live.other { s.rcs.bank s.rcs.live.other with words := words })) := by
  refine hs.setRcs (fun i => ?_) (fun _ => ?_) fun i hpos => ?_
  · rw [inFlight_setBank_words]
    exact hs.counted i
  · rw [inFlight_setBank_words, setBank_live, hfree]
  · rw [inFlight_setBank_words] at hpos
    have hne : i ≠ s.rcs.live.other := fun h => by simp [h, hfree] at hpos
    rw [bank_setBank, if_neg hne]

/-- A refill keeps both counts (R99, R101, R105). -/
theorem refill_inFlight (r : Rcs) (i : BankId) : (r.refill.bank i).inFlight = (r.bank i).inFlight := by
  obtain ⟨-, -, hlive, hother, -⟩ := refill_eq r
  obtain rfl | rfl := eq_or_eq_other i r.live
  · rw [hlive]
  · rw [hother]

/-- A refill rewrites only a bank that counts no jar (R99, R101). -/
theorem FlushSound.refill (hs : FlushSound hand s) (hfree : (s.rcs.bank s.rcs.live.other).inFlight = 0) :
    FlushSound hand (s.setRcs s.rcs.refill) := by
  refine (hs.setSpareWords hfree (s.rcs.bank s.rcs.live).words).setRcs_of_banks (fun _ => rfl) fun _ => ?_
  rw [refill_inFlight, (refill_eq s.rcs).1, hfree]

/-- Fewer jars in hand are covered by the same counts. -/
theorem FlushSound.dropHand (hs : FlushSound (j :: hand) s) : FlushSound hand s where
  heads := hs.heads
  counted i := (Nat.add_le_add_left (by simp [List.countP_cons]) _).trans (hs.counted i)
  spareFree := hs.spareFree

theorem taggedWith_iff (i : BankId) (j : Jar) : taggedWith i j = true ↔ j.tracked = true ∧ j.tag = some i := by
  simp [taggedWith]

/-- R92: a jar counted at its load is in hand until it stands on its head. -/
theorem flushSound_countUp (hs : FlushSound hand s) (htag : j.tag = some s.rcs.live) :
    FlushSound (j :: hand) (s.setRcs (s.rcs.countUp s.rcs.live)) := by
  obtain ⟨hlive, hretiring, -, hwords, hcount⟩ := countUp_eq s.rcs s.rcs.live
  refine hs.setRcs (fun l => ?_) ?_ fun l _ => hwords l
  · have hcovered := hs.counted l
    have hone : (if taggedWith l j = true then 1 else 0) ≤ if l = s.rcs.live then 1 else 0 := by
      by_cases hl : l = s.rcs.live
      · rw [if_pos hl]
        split <;> omega
      · simp [taggedWith_iff, htag, Ne.symm hl]
    rw [hcount, List.countP_cons]
    omega
  · rw [hlive, hretiring, hcount, if_neg (other_ne _)]
    exact hs.spareFree

/-- R92, R101: the jar released is in hand, so a count that falls to 0 covers no jar elsewhere, and the refill of a drained
bank changes the recipe of none. -/
theorem flushSound_countDown (hs : FlushSound (j :: hand) s) {i : BankId} (hj : taggedWith i j = true) :
    FlushSound hand (s.setRcs (s.rcs.countDown i)) := by
  have hfewer : FlushSound hand (s.setRcs (s.rcs.setBank i ⟨(s.rcs.bank i).words, (s.rcs.bank i).inFlight - 1⟩)) := by
    refine hs.setRcs (fun l => ?_) ?_ fun l _ => words_setBank_inFlight _ _ _ _
    · have hcovered := hs.counted l
      rw [List.countP_cons] at hcovered
      rw [bank_setBank]
      split
      next h =>
        rw [h, if_pos hj] at hcovered
        dsimp only
        rw [h]
        omega
      next => exact (Nat.add_le_add_left (Nat.le_add_right _ _) _).trans hcovered
    · rw [setBank_retiring, setBank_live, bank_setBank]
      intro hr
      have hfree := hs.spareFree hr
      split
      next h => simp [← h, hfree]
      next => exact hfree
  obtain ⟨hrole, hlast, hdown⟩ | ⟨-, hdown⟩ := countDown_cases s.rcs i <;> rw [hdown]
  · have hother : s.rcs.live.other = i := by
      obtain h | h := eq_or_eq_other i s.rcs.live
      · simp [Rcs.role, h] at hrole
      · exact h.symm
    exact hfewer.refill (by simp [hother, Nat.sub_eq_zero_of_le hlast])
  · exact hfewer

theorem flushSound_releaseTag (hs : FlushSound (j :: hand) s) : FlushSound hand (releaseTag j s) := by
  unfold releaseTag
  split
  next htracked =>
    split
    next i htag => exact flushSound_countDown hs ((taggedWith_iff i j).2 ⟨htracked, htag⟩)
    next => exact hs.dropHand
  next => exact hs.dropHand

/-! ### The Outfeed Line -/

theorem flushSound_completeJar (hs : FlushSound hand s) (j : Jar) (m : Option Int) : FlushSound hand (completeJar j m s) := by
  obtain ⟨hptk, -, -, hheads, hvalves, -, hrcs, hofl, -⟩ := completeJar_frame s j m
  exact hs.congr hheads hvalves (by rw [hptk]) hrcs hofl

theorem flushSound_passOn (hs : FlushSound (j :: hand) s) (m : Option Int) : FlushSound hand (passOn j m s) :=
  flushSound_releaseTag (flushSound_completeJar hs j m)

/-- The entries of the Outfeed Line change places with jars in hand. -/
theorem FlushSound.setOfl (hs : FlushSound hand s) {line : List OutfeedEntry}
    (hle : ∀ i, line.countP (fun e => taggedWith i e.jar) + hand'.countP (taggedWith i) ≤
      s.ofl.countP (fun e => taggedWith i e.jar) + hand.countP (taggedWith i)) : FlushSound hand' (s.setOfl line) where
  heads := hs.heads
  counted i := by
    have hcovered := hs.counted i
    have hmoved := hle i
    simp only [headsTagged_congr (State.setOfl_heads s line), entriesTagged, State.setOfl_ofl, State.setOfl_rcs]
      at hcovered ⊢
    omega
  spareFree := hs.spareFree

/-- R109: entries that have left the line are passed on one by one. -/
theorem flushSound_foldl_passOn (es : List OutfeedEntry) (m : Option Int)
    (hs : FlushSound (es.map OutfeedEntry.jar ++ hand) s) :
    FlushSound hand (es.foldl (fun t e => passOn e.jar m t) s) := by
  induction es generalizing s with
  | nil => exact hs
  | cons e es ih => exact ih (flushSound_passOn hs m)

theorem flushSound_removeOverdue (hs : FlushSound hand s) : FlushSound hand (removeOverdue s) := by
  refine flushSound_foldl_passOn _ none (hs.setOfl fun i => ?_)
  have hparts := (List.filter_append_perm (overdue s.ptk.p) s.ofl).countP_eq (fun e => taggedWith i e.jar)
  rw [List.countP_append] at hparts
  rw [List.countP_append, List.countP_map, ← hparts]
  simp only [Function.comp_def]
  omega

theorem flushSound_makeRoom (hs : FlushSound hand s) : FlushSound hand (makeRoom s) := by
  unfold makeRoom
  split
  next e rest hline =>
    split
    · refine flushSound_passOn (hs.setOfl fun i => ?_) none
      simp only [hline, List.countP_cons]
      omega
    · exact hs
  next => exact hs

/-- R106: the jar handed over at the exit goes from hand into the line. -/
theorem flushSound_joinOutfeed (hs : FlushSound (j :: hand) s) : FlushSound hand (joinOutfeed j s) := by
  refine (flushSound_makeRoom hs).setOfl fun i => ?_
  simp only [List.countP_append, List.countP_cons, List.countP_nil]
  omega

theorem flushSound_matchMeasurement (hs : FlushSound hand s) (samples : List Int) :
    FlushSound hand (matchMeasurement samples s) := by
  unfold matchMeasurement
  split
  next => exact flushSound_raise hs _ _
  next e rest hline =>
    split
    · exact flushSound_raise hs _ _
    · refine flushSound_passOn (hs.setOfl fun i => ?_) _
      simp only [hline, List.countP_cons]
      omega

theorem flushSound_completeMeasurement (hs : FlushSound hand s) (samples : List Int) (clamped : Nat) :
    FlushSound hand (completeMeasurement samples clamped s) := by
  unfold completeMeasurement
  refine flushSound_matchMeasurement ?_ samples
  split
  · exact flushSound_raise hs _ _
  · exact hs

theorem flushSound_takeSample (hs : FlushSound hand s) (v : Int) : FlushSound hand (takeSample v s) := by
  have hring := flushSound_setScu hs (writeRing (clampSample v) s.scu)
  unfold takeSample windowSample
  dsimp only
  split
  · exact hring
  · exact flushSound_setScu hring _
  · split
    · exact flushSound_completeMeasurement (flushSound_setScu hring _) _ _
    · exact flushSound_setScu hring _

/-! ### The load -/

theorem beginLoad_others (s : State) {k l : Fin 12} (hl : l ≠ k) :
    (beginLoad k s).head l = s.head l ∧ (beginLoad k s).valve l = s.valve l := by
  simp [beginLoad, hl.symm]

theorem beginLoad_valve (k : Fin 12) (s : State) : (beginLoad k s).valve k = false := by simp [beginLoad]

/-- A load puts a jar in hand, or none, on a head whose valve it has CLOSED (R34). -/
theorem flushSound_load (k : Fin 12) {h : Head} (hs : FlushSound hand s) (hne : h.state ≠ .flushing)
    (hjar : ∀ j, h.jar = some j → JarSound h.state j)
    (hhand : ∀ i, (if h.holdsTagged i then 1 else 0) + hand'.countP (taggedWith i) ≤ hand.countP (taggedWith i)) :
    FlushSound hand' ((beginLoad k s).setHead k h) := by
  refine hs.of_others k (fun l hl => ?_) (by simp) (by simp) (by simp) ?_ fun i => ?_
  · simpa [head_setHead_ne _ h hl.symm] using beginLoad_others s hl
  · simpa [beginLoad_valve] using headSound_closed hne hjar
  · rw [head_setHead_same]
    exact (hhand i).trans (Nat.le_add_left _ _)

theorem flushSound_loadNothing (k : Fin 12) (hs : FlushSound hand s) : FlushSound hand (loadNothing k s) :=
  flushSound_load k hs (by simp) (by simp) (by simp)

theorem flushSound_loadUntracked (k : Fin 12) (r : JarRecord) (hs : FlushSound hand s) :
    FlushSound hand (loadUntracked k r s) := by
  refine flushSound_load k hs (by simp) (fun x hx => ?_) (by simp [taggedWith, newJar])
  obtain rfl := Option.some.inj hx
  exact ⟨by simp [newJar], by simp, by simp [newJar]⟩

/-- A tracked jar's load (R35): the jar is counted under the LIVE bank and then stands on the head. -/
theorem flushSound_loadTrackedJar (k : Fin 12) (r : JarRecord) (c : Closure) {h : Head} (hs : FlushSound hand s)
    (hjar : h.jar = some (trackedJar s.rcs r c)) (hne : h.state ≠ .flushing)
    (hsettled : h.state = .settled ↔ c ≠ .pending) :
    FlushSound hand (((beginLoad k s).setRcs (s.rcs.countUp s.rcs.live)).setHead k h) := by
  refine flushSound_load k (flushSound_countUp (j := trackedJar s.rcs r c) hs rfl) hne (fun x hx => ?_) fun i => ?_
  · obtain rfl := Option.some.inj (hjar.symm.trans hx)
    exact ⟨fun _ => rfl, fun _ => rfl, hsettled⟩
  · rw [Head.holdsTagged_of_jar hjar, List.countP_cons]
    omega

theorem flushSound_loadTracked (k : Fin 12) (r : JarRecord) (hs : FlushSound hand s) :
    FlushSound hand (loadTracked k r s) := by
  unfold loadTracked
  dsimp only
  simp only [beginLoad_frame]
  split
  · exact flushSound_loadTrackedJar k r .headLost hs rfl (by simp) (by simp)
  · split
    · exact flushSound_loadTrackedJar k r .pending hs rfl (by simp) (by simp)
    · exact flushSound_raise (flushSound_loadTrackedJar k r .noRecipe hs rfl (by simp) (by simp)) _ _

theorem flushSound_serveInfeed (k : Fin 12) (hs : FlushSound hand s) : FlushSound hand (serveInfeed k s) := by
  unfold serveInfeed
  split
  · exact flushSound_loadTracked k _ (flushSound_setIfq hs _)
  · exact flushSound_loadNothing k (flushSound_raise (flushSound_setIfq hs _) _ _)
  · refine flushSound_loadUntracked k _ ?_
    split
    · exact flushSound_raise hs _ _
    · exact hs
  · exact flushSound_loadNothing k hs

/-! ### The exit -/

/-- R47, R66: the jar leaves its head for the hand, and the valve is CLOSED. -/
theorem flushSound_vacate (hs : FlushSound hand s) (hj : (s.head k).jar = some j) :
    FlushSound (j :: hand) (vacate k s) := by
  refine hs.of_others k (fun l hl => by simp [vacate, hl.symm]) (by simp) (by simp) (by simp) ?_ fun i => ?_
  · simpa [vacate] using headSound_closed (by simp) (by simp)
  · have hempty : ((vacate k s).head k).holdsTagged i = false := Head.holdsTagged_of_none (by simp [vacate]) i
    rw [hempty, Head.holdsTagged_of_jar hj, List.countP_cons, if_neg Bool.false_ne_true]
    omega

theorem flushSound_serveExit (k : Fin 12) (hs : FlushSound hand s) (hmoving : s.ptk.motion = .moving) :
    FlushSound hand (serveExit k s) := by
  have htransitions := flushSound_headTransitions k hs hmoving
  unfold serveExit
  dsimp only
  split
  next j hj => exact flushSound_joinOutfeed (flushSound_removeOverdue (flushSound_vacate htransitions hj))
  next => exact flushSound_removeOverdue htransitions

end

end Sys2Proof.Machine
end

section
/-! The invariant through the turret's events (R1 to R6, R62, R63), the requests, the link and the resets, and the statement
that every command keeps it (R56). -/

namespace Sys2Proof.Machine

section
variable {hand : List Jar} {s : State}

/-! ### Standstill and restart -/

/-- R62: with the turret STOPPED and every valve CLOSED each head is in step. -/
theorem flushSound_stopTurret (hs : FlushSound hand s) : FlushSound hand (stopTurret s) where
  heads k := by
    have hvalve : (stopTurret s).valve k = false := Vector.getElem_replicate k.isLt
    have hstopped : (stopTurret s).ptk.motion ≠ .moving := by simp [stopTurret, closeValves]
    rw [hvalve]
    exact ⟨iff_of_false Bool.false_ne_true fun h => hstopped h.1, (hs.heads k).flushingHolds, (hs.heads k).jarSound⟩
  counted := hs.counted
  spareFree := hs.spareFree

/-- R63 for one head. -/
def reopenValve (k : Fin 12) (s : State) : State :=
  match (s.head k).jar with
  | some j =>
    if (s.head k).state = .flushing ∧ (s.rcs.jarField j .flushTime = 0 ∨ j.flushAccrued < s.rcs.jarField j .flushTime)
    then s.setValve k true
    else s
  | none => s

theorem reopenValves_eq_foldl (s : State) : reopenValves s = allHeads.foldl (fun t k => reopenValve k t) s := rfl

theorem reopenValve_eq (k : Fin 12) (s : State) :
    (FlushesBelowTarget s.rcs (s.head k) ∧ reopenValve k s = s.setValve k true) ∨
    (¬FlushesBelowTarget s.rcs (s.head k) ∧ reopenValve k s = s) := by
  unfold reopenValve
  cases hj : (s.head k).jar with
  | none => exact .inr ⟨by simp [FlushesBelowTarget, hj], rfl⟩
  | some j =>
    rw [flushesBelowTarget_iff hj]
    dsimp only
    split
    next h => exact .inl ⟨h, rfl⟩
    next h => exact .inr ⟨h, rfl⟩

/-- R63: of a run of heads, those FLUSHING below their target are opened, and the rest is left as it is. -/
theorem reopen_foldl_valve (ks : List (Fin 12)) (s : State) (l : Fin 12) :
    (ks.foldl (fun t k => reopenValve k t) s).valve l = true ↔
      s.valve l = true ∨ l ∈ ks ∧ FlushesBelowTarget s.rcs (s.head l) := by
  induction ks generalizing s with
  | nil => simp
  | cons k ks ih =>
    rw [List.foldl_cons, ih, List.mem_cons]
    obtain ⟨hbelow, heq⟩ | ⟨hnot, heq⟩ := reopenValve_eq k s <;> rw [heq]
    · by_cases hl : l = k
      · subst hl
        simp [hbelow]
      · simp [hl, valve_setValve_ne s true (Ne.symm hl)]
    · by_cases hl : l = k
      · subst hl
        simp [hnot]
      · simp [hl]

theorem reopenValves_valve (s : State) (k : Fin 12) :
    (reopenValves s).valve k = true ↔ s.valve k = true ∨ FlushesBelowTarget s.rcs (s.head k) := by
  rw [reopenValves_eq_foldl, reopen_foldl_valve]
  simp [mem_allHeads]

/-- A turret that STOPPED had every valve CLOSED, so what R63 opens is all that R56 asks for. -/
theorem flushSound_startMoving (hs : FlushSound hand s) : FlushSound hand (startMoving s) := by
  unfold startMoving
  dsimp only
  split
  next hstopped =>
    refine ⟨fun k => ?_, fun i => ?_, ?_⟩
    · have hclosed : s.valve k ≠ true := fun hv => by
        simpa [hstopped] using ((hs.heads k).valveFollows.1 hv).1
      rw [head_congr (s := s) (by simp)]
      simp only [reopenValves_frame, State.setPtk_rcs, State.setPtk_ptk]
      exact ⟨by simp [reopenValves_valve, hclosed], (hs.heads k).flushingHolds, (hs.heads k).jarSound⟩
    · rw [headsTagged_congr (s := s) (by simp), entriesTagged]
      simpa [entriesTagged] using hs.counted i
    · simpa using hs.spareFree
  next hmoving =>
    refine flushSound_setPtk hs ?_
    cases h : s.ptk.motion with
    | stopped => exact absurd h hmoving
    | moving => rfl

theorem startMoving_motion (s : State) : (startMoving s).ptk.motion = .moving := by rw [startMoving_ptk]

/-! ### The turret advance -/

theorem flushSound_allTransitions (hs : FlushSound hand s) (hmoving : s.ptk.motion = .moving) :
    FlushSound hand (allTransitions s) :=
  (List.foldlRecOn (motive := fun t => FlushSound hand t ∧ t.ptk.motion = .moving) allHeads
    (fun t k => headTransitions k t) ⟨hs, hmoving⟩ fun t ht k _ =>
      ⟨flushSound_headTransitions k ht.1 ht.2, by simpa using ht.2⟩).1

/-- The Pitch Tracker's part, the release holds and the stale removal reach no jar, valve or motion state. -/
theorem flushSound_pitchEvent (hs : FlushSound hand s) (hmoving : s.ptk.motion = .moving) :
    FlushSound hand (pitchEvent s) := by
  have hmotion : (purgeIfSynced (repitched s)).ptk.motion = s.ptk.motion := by
    simp [repitched, trackPitch, setPitch, chooseLead, measurePitch]
  have hbefore : FlushSound hand (purgeIfSynced (repitched s)) :=
    hs.congr (by simp [repitched]) (by simp [repitched]) hmotion (by simp [repitched]) (by simp [repitched])
  obtain ⟨k, hevent⟩ := pitchEvent_eq_serve s
  rw [hevent]
  refine flushSound_serveExit _ (flushSound_serveInfeed k hbefore) ?_
  simp only [serveInfeed_frame, hmotion, hmoving]

theorem flushSound_turretAdvance (hs : FlushSound hand s) : FlushSound hand (turretAdvance s) := by
  have hstart : FlushSound hand
      (startMoving (s.setPtk { s.ptk with turret := (s.ptk.turret + 1) % Config.countsPerRevolution })) :=
    flushSound_startMoving (flushSound_setPtk hs rfl)
  unfold turretAdvance
  dsimp only
  split
  · refine flushSound_allTransitions (flushSound_pitchEvent hstart (startMoving_motion _)) ?_
    rw [pitchEvent_ptk]
    exact startMoving_motion _
  · exact flushSound_allTransitions hstart (startMoving_motion _)

theorem flushSound_encoderReport (d : Direction) (hs : FlushSound hand s) : FlushSound hand (encoderReport d s) := by
  cases d with
  | backward =>
    unfold encoderReport
    dsimp only
    split
    · exact flushSound_setPtk hs rfl
    · exact hs
  | forward =>
    unfold encoderReport
    dsimp only
    split
    · exact flushSound_turretAdvance hs
    · exact flushSound_setPtk hs rfl

/-! ### The requests -/

theorem flushSound_respond (hs : FlushSound hand s) (code tag : Byte) (st : Status) (data : List Byte) :
    FlushSound hand (respond code tag st data s) :=
  hs.congr (by simp) (by simp) (by simp) (by simp) (by simp)

theorem flushSound_setCursors (hs : FlushSound hand s) (read write : Cursor) :
    FlushSound hand (s.setRcs { s.rcs with readCursor := read, writeCursor := write }) :=
  hs.setRcs_of_banks (fun _ => rfl) hs.spareFree

theorem flushSound_requestClearFault (tag code : Byte) (hs : FlushSound hand s) :
    FlushSound hand (requestClearFault tag code s) := by
  unfold requestClearFault
  dsimp only
  split
  · exact flushSound_respond hs _ _ _ _
  · exact flushSound_respond (flushSound_setFlt hs _) _ _ _ _

theorem flushSound_requestCursor (tag which table : Byte) (index : Word) (hs : FlushSound hand s) :
    FlushSound hand (requestCursor tag which table index s) := by
  unfold requestCursor
  dsimp only
  split
  · exact flushSound_respond hs _ _ _ _
  split
  · exact flushSound_respond hs _ _ _ _
  · refine flushSound_respond ?_ _ _ _ _
    split
    · exact flushSound_setCursors hs _ s.rcs.writeCursor
    · exact flushSound_setCursors hs s.rcs.readCursor _

/-- R95: a WRITE reaches the words of the SPARE bank alone, and only while it counts no jar. -/
theorem flushSound_storeTable (t : Table) (i : Nat) (ws : List Word) (hs : FlushSound hand s)
    (htaken : writeRefusal s.rcs t = none) : FlushSound hand (storeTable t i ws s) := by
  cases t with
  | spare =>
    have hretiring : s.rcs.retiring = false := by simpa [writeRefusal] using htaken
    have hwritten := hs.setSpareWords (hs.spareFree hretiring)
    exact (hwritten _).setRcs_of_banks (fun _ => rfl) (hwritten _).spareFree
  | lead => exact flushSound_setPtk hs rfl
  | config => exact hs.congr rfl rfl rfl rfl rfl
  | live | retiring | tallies | sampleRing | heads => exact hs

theorem flushSound_requestWrite (tag count : Byte) (words : List Word) (hs : FlushSound hand s) :
    FlushSound hand (requestWrite tag count words s) := by
  unfold requestWrite
  dsimp only
  split
  · exact flushSound_respond hs _ _ _ _
  split
  · exact flushSound_respond hs _ _ _ _
  split
  · exact flushSound_respond hs _ _ _ _
  next htaken =>
    exact flushSound_respond (flushSound_setCursors (flushSound_storeTable _ _ _ hs htaken) _ _) _ _ _ _

theorem flushSound_requestRead (tag count : Byte) (hs : FlushSound hand s) : FlushSound hand (requestRead tag count s) := by
  unfold requestRead
  dsimp only
  split
  · exact flushSound_respond hs _ _ _ _
  split
  · exact flushSound_respond hs _ _ _ _
  · exact flushSound_respond (flushSound_setCursors hs _ s.rcs.writeCursor) _ _ _ _

/-- R99: a LIVE bank with jars in flight becomes RETIRING and keeps its words; one without is refilled. -/
theorem flushSound_acceptCommit (hs : FlushSound hand s) : FlushSound hand (s.setRcs (acceptCommit s.rcs)) := by
  have hswapped (r : Bool) (w : Word) (hr : r = false → (s.rcs.bank s.rcs.live).inFlight = 0) : FlushSound hand
      (s.setRcs { s.rcs with live := s.rcs.live.other, retiring := r, signature := w }) := by
    refine hs.setRcs_of_banks (fun _ => rfl) fun h => ?_
    rw [other_other]
    exact hr h
  unfold acceptCommit
  dsimp only
  split
  next => exact hswapped true 0 (by simp)
  next hnone =>
    have hfree : (s.rcs.bank s.rcs.live).inFlight = 0 := Nat.eq_zero_of_not_pos hnone
    refine (hswapped s.rcs.retiring s.rcs.signature fun _ => hfree).refill ?_
    rw [State.setRcs_rcs, other_other]
    exact hfree

theorem flushSound_requestCommit (tag : Byte) (expected : Word) (hs : FlushSound hand s) :
    FlushSound hand (requestCommit tag expected s) := by
  unfold requestCommit
  dsimp only
  refine flushSound_respond ?_ _ _ _ _
  split
  · exact flushSound_acceptCommit hs
  · exact hs

/-- R49: a service change waits for the next load and reaches no jar. -/
theorem flushSound_setPendingService (hs : FlushSound hand s) (k : Fin 12) (v : Option Service) :
    FlushSound hand (s.setHead k { s.head k with pendingService := v }) := by
  obtain ⟨hvalve, hholds, hjar⟩ := hs.heads k
  exact hs.setHead k ⟨hvalve, hholds, hjar⟩ fun _ h => h

theorem flushSound_requestHeadService (tag head value : Byte) (hs : FlushSound hand s) :
    FlushSound hand (requestHeadService tag head value s) := by
  unfold requestHeadService
  dsimp only
  split
  · exact flushSound_respond hs _ _ _ _
  · exact flushSound_respond (flushSound_setPendingService hs _ _) _ _ _ _

/-! ### The resets -/

/-- R54: of a run of heads each is warm reset, and the rest is left as it is. -/
theorem warm_foldl_head (ks : List (Fin 12)) (s : State) (l : Fin 12) :
    (ks.foldl (fun t k => t.setHead k (warmHead (t.head k))) s).head l =
      if l ∈ ks then warmHead (s.head l) else s.head l := by
  induction ks generalizing s with
  | nil => simp
  | cons k ks ih =>
    rw [List.foldl_cons, ih]
    by_cases hl : l = k
    · subst hl
      simp [warmHead]
    · simp [hl, head_setHead_ne s _ (Ne.symm hl)]

theorem warmHeads_head (s : State) (k : Fin 12) : (warmHeads s).head k = warmHead (s.head k) := by
  rw [warmHeads, warm_foldl_head, if_pos (mem_allHeads k)]

/-- R105: after a warm reset no bank counts a jar. -/
theorem warmRcs_inFlight (r : Rcs) (i : BankId) : ((warmRcs r).bank i).inFlight = 0 := by
  unfold warmRcs
  dsimp only
  split
  · rw [refill_inFlight]
    cases i <;> rfl
  · cases i <;> rfl

theorem flushSound_warmReset (s : State) : FlushSound [] (warmReset s) := by
  have hhead (k : Fin 12) : (warmReset s).head k = warmHead (s.head k) := by
    simp [warmReset, warmHeads_head]
  refine flushSound_of_empty (fun k => by simp [hhead, warmHead]) (fun k => Vector.getElem_replicate k.isLt) rfl fun _ => ?_
  exact warmRcs_inFlight _ _

theorem flushSound_coldReset (straps : BitVec 6) (s : State) : FlushSound [] (coldReset straps s) :=
  flushSound_of_empty (fun k => by simp [coldReset_head, Head.reset]) (coldReset_valve straps s) rfl fun _ => rfl

/-! ### Requests and frames -/

theorem flushSound_runRequest (r : Request) (hs : FlushSound [] s) : FlushSound [] (runRequest r s) := by
  cases r with
  | status tag => exact flushSound_respond hs _ _ _ _
  | faults tag => exact flushSound_respond hs _ _ _ _
  | clearFault tag code => exact flushSound_requestClearFault tag code hs
  | cursor tag which table index => exact flushSound_requestCursor tag which table index hs
  | write tag count words => exact flushSound_requestWrite tag count words hs
  | read tag count => exact flushSound_requestRead tag count hs
  | commit tag signature => exact flushSound_requestCommit tag signature hs
  | headService tag head value => exact flushSound_requestHeadService tag head value hs
  | seedAudit tag value => exact flushSound_respond (flushSound_setDsu hs _) _ _ _ _
  | clearTallies tag => exact flushSound_respond (flushSound_setDsu hs _) _ _ _ _
  | resetStation tag => exact flushSound_respond (flushSound_warmReset s) _ _ _ _
  | refused code tag st => exact flushSound_respond hs _ _ _ _

theorem flushSound_noteDiscard (c : DiscardCause) (hs : FlushSound hand s) : FlushSound hand (noteDiscard c s) :=
  hs.congr (by simp) (by simp) (by simp) (by simp) (by simp)

theorem flushSound_setReceiver (r : Receiver) (hs : FlushSound hand s) : FlushSound hand (setReceiver r s) :=
  hs.congr rfl rfl rfl rfl rfl

theorem flushSound_jarFrameArrival (payload : List Byte) (hs : FlushSound hand s) :
    FlushSound hand (jarFrameArrival payload s) :=
  hs.congr (by simp) (by simp) (by simp) (by simp) (by simp)

/-- A PITCH frame moves P and the sync state, not the motion state (R9 to R11). -/
theorem pitchFrameArrival_motion (payload : List Byte) (s : State) :
    (pitchFrameArrival payload s).ptk.motion = s.ptk.motion := by
  unfold pitchFrameArrival takeMasterPitch
  dsimp only
  (repeat' split) <;> simp [setPitch]

theorem flushSound_pitchFrameArrival (payload : List Byte) (hs : FlushSound hand s) :
    FlushSound hand (pitchFrameArrival payload s) :=
  hs.congr (by simp) (by simp) (pitchFrameArrival_motion payload s) (by simp) (by simp)

theorem flushSound_forwardFrame (f : SealedFrame) (hs : FlushSound hand s) : FlushSound hand (forwardFrame f s) :=
  hs.congr (by simp) (by simp) (by simp) (by simp) (by simp)

theorem flushSound_dispatch (f : SealedFrame) (hs : FlushSound [] s) : FlushSound [] (dispatch f s) := by
  unfold dispatch
  split
  · exact flushSound_jarFrameArrival _ hs
  · exact flushSound_runRequest _ hs
  · exact hs
  · exact flushSound_forwardFrame f (flushSound_pitchFrameArrival _ hs)
  · exact flushSound_forwardFrame f hs

theorem flushSound_frameComplete (f : SealedFrame) (parityError : Bool) (hs : FlushSound [] s) :
    FlushSound [] (frameComplete f parityError s) := by
  unfold frameComplete
  split
  · exact flushSound_noteDiscard _ hs
  · exact flushSound_dispatch f (hs.congr (by simp) (by simp) (by simp) (by simp) (by simp))

theorem flushSound_receiveChar (c : LinkChar) (hs : FlushSound [] s) : FlushSound [] (receiveChar s c) := by
  unfold receiveChar
  split
  · exact hs
  split
  · split
    · exact flushSound_setReceiver _ hs
    · exact hs
  split
  · exact flushSound_setReceiver _ (flushSound_noteDiscard _ hs)
  split
  · exact flushSound_setReceiver _ hs
  · exact flushSound_noteDiscard _ (flushSound_setReceiver _ hs)
  · exact flushSound_frameComplete _ _ (flushSound_setReceiver _ hs)

/-! ### Every command -/

/-- The arbiter starts frames alone (R145). -/
theorem flushSound_runArbiter (hs : FlushSound hand s) : FlushSound hand (runArbiter s) :=
  hs.congr (by simp) (by simp) (by simp) (by simp) (by simp)

/-- Every command keeps the invariant; a request command is the request at the Management Responder. -/
theorem flushSound_exec (c : Instr) {t : State} (hs : FlushSound [] s) (hexec : exec c s = .next t) :
    FlushSound [] t := by
  cases c <;> obtain rfl := Host.Outcome.next.inj hexec
  case encoderReport direction eye caps => exact flushSound_encoderReport direction (flushSound_setPins hs _)
  case standstillExpiry =>
    split
    · exact flushSound_stopTurret hs
    · exact hs
  case flushMillisecondTick steamOk => exact flushSound_flushTick (flushSound_setPtk (flushSound_setPins hs _) rfl)
  case headBusSyncSlot =>
    split
    · exact flushSound_setSpu hs _
    · exact hs
  case headSlotStart k =>
    split
    · exact flushSound_setSpindle (flushSound_setSpu hs _) _ _
    · exact hs
  case headBusSlotArrival k reply =>
    split
    · exact flushSound_takeSlot k _ (flushSound_setSpu hs _)
    · exact hs
  case jarEyeEdge => exact flushSound_setScu hs _
  case sensorSampleArrival sample => exact flushSound_takeSample hs _
  case frameArrival chars => exact List.foldlRecOn chars receiveChar hs fun t ht c _ => flushSound_receiveChar c ht
  case characterArrival char => exact flushSound_receiveChar char hs
  case transmitCompletion =>
    split
    · exact hs
    · exact flushSound_runArbiter (flushSound_setLif hs _)
  case downstreamHoldAsserted => exact flushSound_setPins hs _
  case downstreamHoldReleased =>
    unfold runArbiterIfIdle
    split
    · exact flushSound_runArbiter (flushSound_setPins hs _)
    · exact flushSound_setPins hs _
  case coldReset straps => exact flushSound_coldReset straps s
  case status tag => exact flushSound_runRequest (.status tag) hs
  case faults tag => exact flushSound_runRequest (.faults tag) hs
  case clearFault tag code => exact flushSound_runRequest (.clearFault tag code) hs
  case cursor tag which table index => exact flushSound_runRequest (.cursor tag which table index) hs
  case write tag count words => exact flushSound_runRequest (.write tag count words) hs
  case read tag count => exact flushSound_runRequest (.read tag count) hs
  case commit tag signature => exact flushSound_runRequest (.commit tag signature) hs
  case headService tag head value => exact flushSound_runRequest (.headService tag head value) hs
  case seedAudit tag value => exact flushSound_runRequest (.seedAudit tag value) hs
  case clearTallies tag => exact flushSound_runRequest (.clearTallies tag) hs
  case resetStation tag => exact flushSound_runRequest (.resetStation tag) hs
  case unknownRequest payload => exact flushSound_runRequest (parseRequest payload) hs

end

/-- Settles O57: the premises give the invariant, every command keeps it, and it contains both conclusions. Of the premises on
jars and counts it needs that FLUSHING heads hold a jar and that each bank counts the jars tagged with it. -/
theorem valvesFollowConditions : Obligations.ValvesFollowConditions := by
  rintro c s t ⟨hvalves, hjars, hstates, hcounts, -⟩ hexec
  have hsound := flushSound_exec c (flushSound_of_premises hvalves hjars hstates hcounts) hexec
  exact ⟨hsound.valvesFollow, hsound.jarsConsistent⟩

end Sys2Proof.Machine
end

section
/-! The slots of the head bus (R69, R70, R72): when a slot begins and what each row of R70 sends. -/

namespace Sys2Proof.Machine

open Sys2Proof.Claims

variable {s : State} {k : Fin 12}

/-! ### The turn of a slot (R69) -/

theorem due_zero_of_cycleOver (h : CycleOver s) : s.spu.due 0 = true := by
  obtain ⟨hposition, hended⟩ := h
  simp [due_iff, hposition, hended]

theorem due_succ_of_nextSlot (h : NextSlot s k) : s.spu.due (k.val + 1) = true := by
  obtain ⟨hposition, hended⟩ := h
  rw [due_iff, hposition]
  refine ⟨by omega, ?_⟩
  by_cases hk : k = 0
  · exact .inl (by simp [hk])
  · exact .inr (hended hk)

theorem exec_headBusSyncSlot (h : CycleOver s) : exec .headBusSyncSlot s = .next (s.setSpu (s.spu.beginSlot 0)) :=
  congrArg Host.Outcome.next (if_pos (due_zero_of_cycleOver h))

theorem exec_headSlotStart (h : NextSlot s k) : exec (.headSlotStart k) s = .next (startSlot k s) :=
  congrArg Host.Outcome.next (if_pos (due_succ_of_nextSlot h))

/-- The arrival of the slot in progress ends it and acts on what it brings (R72). -/
theorem exec_headBusSlotArrival (h : InSlot s k) (r : Option Reply) :
    exec (.headBusSlotArrival k r) s = .next (takeSlot k (slotOutcome k r) (arrived s)) :=
  congrArg Host.Outcome.next (if_pos ((inSlot_iff _ _).2 h))

/-! ### The rows of R70 -/

section
variable {rcs : Rcs} {h : Head} {j : Jar} {hold : ReleaseHold}

theorem chooseCommand_of_hold (hhold : hold ≠ .free) : chooseCommand rcs hold h = .release := by
  cases hold with
  | free => exact absurd rfl hhold
  | toPitch => rfl
  | toLoad => rfl

theorem chooseCommand_of_torquing (hstate : h.state = .torquing) (hj : h.jar = some j) :
    chooseCommand rcs .free h = .run (rcs.jarField j .torqueCeiling) := by
  simp [chooseCommand, hstate, hj]

theorem chooseCommand_of_settled (hstate : h.state = .settled) (hj : h.jar = some j) :
    chooseCommand rcs .free h = if j.closure = .seated then .hold else .idle := by
  simp [chooseCommand, hstate, hj]

/-- The last row: neither TORQUING nor SETTLED with SEATED. -/
theorem chooseCommand_of_other (htorquing : h.state ≠ .torquing)
    (hseated : ∀ j, h.state = .settled → h.jar = some j → j.closure ≠ .seated) :
    chooseCommand rcs .free h = .idle := by
  simp only [chooseCommand]
  split
  next hstate _ => exact absurd hstate htorquing
  next j hstate hj => exact if_neg (hseated j hstate hj)
  next => rfl

end

@[simp] theorem startSlot_spindle (k : Fin 12) (s : State) : (startSlot k s).spindle k =
    { s.spindle k with command := chooseCommand s.rcs (s.spindle k).releaseHold (s.head k) } :=
  spindle_setSpindle_same _ _ _

/-- Settles O16: each slot begins in its turn, and its command is read off the rows of R70. -/
theorem slotStartChoosesCommand : Obligations.SlotStartChoosesCommand := by
  refine ⟨fun s hover => exec_headBusSyncSlot hover, fun k s hnext => ⟨startSlot k s, exec_headSlotStart hnext, ?_⟩⟩
  rw [startSlot_spindle]
  refine ⟨rfl, rfl, chooseCommand_of_hold, fun hfree => ?_⟩
  rw [hfree]
  refine ⟨fun j => chooseCommand_of_torquing, fun j hstate hj hseated => ?_, chooseCommand_of_other⟩
  exact (chooseCommand_of_settled hstate hj).trans (if_pos hseated)

end Sys2Proof.Machine
end

section
/-! The replies and the missed samples that take a head out of service (R50, R77 to R79, R81). -/

namespace Sys2Proof.Machine

open Sys2Proof.Claims

/-! ### Two updates of one head -/

theorem setHead_setHead (s : State) (k : Fin 12) (h h' : Head) : (s.setHead k h).setHead k h' = s.setHead k h' := by
  simp [State.setHead, State.setHeads]

theorem setSpindle_setSpindle (s : State) (k : Fin 12) (v w : Spindle) :
    (s.setSpindle k v).setSpindle k w = s.setSpindle k w := by
  simp [State.setSpindle, State.setSpu]

/-! ### The out-of-service report -/

/-- The model's report of a head is the one R50 and R81 give. -/
theorem reportedHead_eq_outReported (angle : Nat) (h : Head) : reportedHead angle h = outReported angle h := by
  obtain ⟨service, pendingService, state, jar⟩ := h
  cases jar with
  | none => rfl
  | some j =>
    by_cases hpending : j.closure = .pending
    · simp only [reportedHead, outReported, reportedJar, if_pos hpending]
    · simp only [reportedHead, outReported, reportedJar, if_neg hpending]

/-- The report of a head whose spindle was just written takes the last angle and the rest of the spindle from there. -/
theorem outOfServiceReport_setSpindle (s : State) (k : Fin 12) (v : Spindle) :
    outOfServiceReport k (s.setSpindle k v) =
      ((s.setHead k (outReported v.lastAngle (s.head k))).setValve k false).setSpindle k
        { v with releaseHold := .toLoad } := by
  unfold outOfServiceReport
  rw [spindle_setSpindle_same, head_setSpindle, reportedHead_eq_outReported]
  exact setSpindle_setSpindle ((s.setHead k _).setValve k false) k v _

theorem outOfServiceReport_setSpindle_setHead (s : State) (k : Fin 12) (v : Spindle) (h : Head) :
    outOfServiceReport k ((s.setSpindle k v).setHead k h) =
      ((s.setHead k (outReported v.lastAngle h)).setValve k false).setSpindle k { v with releaseHold := .toLoad } := by
  have hreport := outOfServiceReport_setSpindle (s.setHead k h) k v
  rwa [head_setHead_same, setHead_setHead] at hreport

/-! ### A FAULT reply -/

theorem slotOutcome_of_fault {k : Fin 12} {r : Reply} (hvalid : Valid k r) (hfault : r.status = .fault) :
    slotOutcome k (some r) = .faultReply := by
  obtain ⟨hhead, hcheck⟩ := hvalid
  simp [slotOutcome, hhead, replyCheckPasses, hcheck, hfault]

theorem takeFaultReply_eq (k : Fin 12) (s : State) : takeFaultReply k s =
    (((s.raise .headDriveFault (headByte k)).setHead k (outReported (s.spindle k).lastAngle (s.head k))).setValve k
      false).setSpindle k { s.spindle k with misses := 0, releaseHold := .toLoad } :=
  outOfServiceReport_setSpindle (s.raise .headDriveFault (headByte k)) k { s.spindle k with misses := 0 }

/-- Settles O19: the arrival brings a FAULT reply, and that is the fault and the report of R79. -/
theorem faultReplyTakesHeadOut : Obligations.FaultReplyTakesHeadOut := by
  intro k r s hslot hvalid hfault
  rw [exec_headBusSlotArrival hslot, slotOutcome_of_fault hvalid hfault]
  exact congrArg Host.Outcome.next (takeFaultReply_eq k (arrived s))

/-! ### A missed sample -/

theorem countJarMiss_eq (h : Head) : countJarMiss h = { h with jar := h.jar.map (fun j =>
    { j with missed := if j.missed < 65535 then j.missed + 1 else 65535 }) } := by
  obtain ⟨service, pendingService, state, jar⟩ := h
  cases jar with
  | none => rfl
  | some j =>
    have hcount : min (j.missed + 1) 65535 = if j.missed < 65535 then j.missed + 1 else 65535 := by
      split <;> omega
    simp only [countJarMiss, hcount, Option.map_some]

/-- IDLE and RELEASE slots count no miss (R77). -/
theorem countsMisses_eq_false {c : HeadCommand} (h : c = .idle ∨ c = .release) : c.countsMisses = false := by
  obtain rfl | rfl := h <;> rfl

/-- RUN and HOLD slots count theirs (R77). -/
theorem countsMisses_eq_true {c : HeadCommand} (h : c = .hold ∨ ∃ limit, c = .run limit) : c.countsMisses = true := by
  obtain rfl | ⟨limit, rfl⟩ := h <;> rfl

section
variable {s : State} {k : Fin 12}

theorem takeMiss_of_uncounted (hcounts : (s.spindle k).command.countsMisses = false) : takeMiss k s = s := by
  simp [takeMiss, hcounts]

/-- The first and the second miss in a row (R77). -/
theorem takeMiss_of_few (hcounts : (s.spindle k).command.countsMisses = true) (hfew : (s.spindle k).misses < 2) :
    takeMiss k s = (s.setSpindle k { s.spindle k with misses := (s.spindle k).misses + 1 }).setHead k
      (countJarMiss (s.head k)) := by
  have hmin : min ((s.spindle k).misses + 1) 3 = (s.spindle k).misses + 1 := by omega
  have hne : (s.spindle k).misses ≠ 2 := by omega
  simp [takeMiss, hcounts, hmin, hne]

/-- The third miss in a row takes the head out of service (R78). -/
theorem takeMiss_of_third (hcounts : (s.spindle k).command.countsMisses = true) (hthird : ¬(s.spindle k).misses < 2) :
    takeMiss k s = (((s.raise .headLinkLost (headByte k)).setHead k
      (outReported (s.spindle k).lastAngle (countJarMiss (s.head k)))).setValve k false).setSpindle k
      { s.spindle k with misses := 3, releaseHold := .toLoad } := by
  have hmin : min ((s.spindle k).misses + 1) 3 = 3 := by omega
  simp only [takeMiss, hcounts, hmin, if_true]
  exact outOfServiceReport_setSpindle_setHead (s.raise .headLinkLost (headByte k)) k
    { s.spindle k with misses := 3 } (countJarMiss (s.head k))

end

/-- Settles O20: the command in force says whether the miss counts, and the misses before it whether it is the third. The
premise that the count is at most 3 is not needed, because the model's count holds at 3. -/
theorem missedSampleCounts : Obligations.MissedSampleCounts := by
  intro k s hslot _
  refine ⟨takeMiss k (arrived s), exec_headBusSlotArrival hslot none,
    fun huncounted => ?uncounted, fun hcounted => ?counted⟩
  case uncounted => exact takeMiss_of_uncounted (countsMisses_eq_false huncounted)
  case counted =>
    have hcounts : ((arrived s).spindle k).command.countsMisses = true := countsMisses_eq_true hcounted
    dsimp only
    rw [← countJarMiss_eq]
    split
    next hfew => exact takeMiss_of_few hcounts hfew
    next hthird => exact takeMiss_of_third hcounts hthird

end Sys2Proof.Machine
end

section
/-! COMMIT (R98, R99), and how a request is answered (R144, R145, R149, R165). -/

namespace Sys2Proof.Machine

open Sys2Proof.Claims

/-! ### A frame of the station, pushed -/

section
variable {s : State} {f : Frame}

theorem startOwn_eq_setLif (s : State) : startOwn s = s.setLif (startOwn s).lif := by
  unfold startOwn
  split <;> rfl

theorem startForwarded_eq_setLif (s : State) : startForwarded s = s.setLif (startForwarded s).lif := by
  unfold startForwarded
  split <;> rfl

theorem runArbiter_eq_setLif (s : State) : runArbiter s = s.setLif (runArbiter s).lif := by
  unfold runArbiter
  split
  next => rfl
  split
  next => exact startForwarded_eq_setLif s
  split
  next => exact startOwn_eq_setLif s
  next => exact startForwarded_eq_setLif s

/-- A push changes the Link Interface alone. -/
theorem pushFrame_eq_setLif (f : Frame) (s : State) : pushFrame f s = s.setLif (pushFrame f s).lif := by
  unfold pushFrame runArbiterIfIdle
  split
  next =>
    split
    next => exact runArbiter_eq_setLif (s.setLif { s.lif with transmitQueue := s.lif.transmitQueue ++ [f] })
    next => rfl
  next => rfl

theorem pushFrame_of_full (hfull : 8 ≤ s.lif.transmitQueue.length) : pushFrame f s = s :=
  if_neg (Nat.not_lt.2 hfull)

/-- A push onto a busy port, or onto one that the downstream HOLD keeps idle, leaves the frame in the queue (R144, R145). -/
theorem pushFrame_of_waiting (hroom : ¬8 ≤ s.lif.transmitQueue.length)
    (hwait : ¬(s.lif.sending = none ∧ s.pins.downstreamHold = false)) :
    pushFrame f s = s.setLif { s.lif with transmitQueue := s.lif.transmitQueue ++ [f] } := by
  rw [pushFrame, if_pos (Nat.lt_of_not_le hroom), runArbiterIfIdle]
  split
  next hidle =>
    have hhold : s.pins.downstreamHold = true := Bool.of_not_eq_false fun h => hwait ⟨hidle, h⟩
    exact if_pos hhold
  next => rfl

/-- A push onto an idle port with nothing waiting and the downstream HOLD released starts the frame (R144, R145). -/
theorem pushFrame_of_idle (hkind : f.kind ≠ kindPitch) (hidle : s.lif.sending = none)
    (hfree : s.pins.downstreamHold = false) (hpass : s.lif.passFifo = []) (hown : s.lif.transmitQueue = []) :
    pushFrame f s = s.setLif { s.lif with sending := some (sealFrame f) } := by
  simp [pushFrame, runArbiterIfIdle, runArbiter, startOwn, ownAsSent, Config.transmitCapacity, hkind, hidle, hfree,
    hpass, hown, State.setLif]

theorem pushed_pushFrame (hserved : PortServed s) (hkind : f.kind ≠ kindPitch) : Pushed s f (pushFrame f s).lif := by
  unfold Pushed
  split
  next hfull => rw [pushFrame_of_full hfull]
  next hroom =>
  split
  next hready =>
    obtain ⟨hidle, hfree⟩ := hready
    obtain ⟨hpass, hown⟩ := hserved hidle hfree
    rw [pushFrame_of_idle hkind hidle hfree hpass hown, State.setLif_lif]
  next hwait => rw [pushFrame_of_waiting hroom hwait, State.setLif_lif]

/-! ### A response -/

theorem respond_eq_setLif (code tag : Byte) (st : Status) (data : List Byte) (s : State) :
    respond code tag st data s = s.setLif (respond code tag st data s).lif := pushFrame_eq_setLif _ s

theorem answered_respond (hserved : PortServed s) (code tag : Byte) (st : Status) (data : List Byte) :
    Answered s code tag st.code data (respond code tag st data s).lif :=
  pushed_pushFrame hserved (show kindRsp ≠ kindPitch by decide)

end

/-! ### The checks of COMMIT (R98) -/

/-- A valid recipe that is not in order (R89). -/
def Disordered (words : Vector Word 160) (n : Nat) : Prop :=
  n < 8 ∧ bankField words n .valid = 1 ∧ recipeInOrder words n = false

theorem disordered_iff {words : Vector Word 160} {n : Nat} (hn : n < 8) :
    Disordered words n ↔ (recipeUsable words n && !recipeInOrder words n) = true := by
  have hle : n ≤ 7 := Nat.le_of_lt_succ hn
  simp [Disordered, recipeUsable, hn, hle]

theorem firstDisordered_eq_some {words : Vector Word 160} {n : Nat} (hn : Disordered words n)
    (hfirst : ∀ m, m < n → ¬Disordered words m) : firstDisordered words = some n := by
  refine List.find?_range_eq_some.2 ⟨(disordered_iff hn.1).1 hn, List.mem_range.2 hn.1, fun m hm => ?_⟩
  simpa only [Bool.not_eq_true, Bool.not_eq_true'] using mt (disordered_iff (hm.trans hn.1)).2 (hfirst m hm)

theorem firstDisordered_eq_none {words : Vector Word 160} (hnone : ∀ n, ¬Disordered words n) :
    firstDisordered words = none := by
  refine List.find?_range_eq_none.2 fun m hm => ?_
  simpa only [Bool.not_eq_true, Bool.not_eq_true'] using mt (disordered_iff hm).2 (hnone m)

section
variable {r : Rcs} {expected : Word}

theorem commitCheck_of_retiring (hretiring : r.retiring = true) : commitCheck r expected = (.busy, []) :=
  if_pos hretiring

theorem commitCheck_of_mismatch (hretiring : r.retiring = false) (hsig : expected ≠ r.signature) :
    commitCheck r expected = (.signatureMismatch, []) := by
  simp [commitCheck, hretiring, hsig]

theorem commitCheck_of_disordered {n : Nat} (hretiring : r.retiring = false) (hsig : expected = r.signature)
    (hn : Disordered (r.bank r.live.other).words n)
    (hfirst : ∀ m, m < n → ¬Disordered (r.bank r.live.other).words m) :
    commitCheck r expected = (.recipeInvalid, [byteOfNat n]) := by
  simp [commitCheck, hretiring, hsig, firstDisordered_eq_some hn hfirst]

theorem commitCheck_of_ordered (hretiring : r.retiring = false) (hsig : expected = r.signature)
    (hnone : ∀ n, ¬Disordered (r.bank r.live.other).words n) : commitCheck r expected = (.accepted, []) := by
  simp [commitCheck, hretiring, hsig, firstDisordered_eq_none hnone]

end

/-! ### The swap (R99) -/

theorem acceptCommit_of_inFlight {r : Rcs} (h : 1 ≤ (r.bank r.live).inFlight) :
    acceptCommit r = { r with live := r.live.other, retiring := true, signature := 0 } := if_pos h

theorem acceptCommit_of_none_inFlight {r : Rcs} (h : (r.bank r.live).inFlight = 0) :
    acceptCommit r = Rcs.refill { r with live := r.live.other } := if_neg (by omega)

/-- Jars in flight or none, the SPARE bank becomes LIVE, and its contents, the counts and the cursors are kept. -/
theorem acceptCommit_keeps (r : Rcs) :
    (acceptCommit r).live = r.live.other ∧ (acceptCommit r).bank r.live.other = r.bank r.live.other ∧
    ((acceptCommit r).bank r.live).inFlight = (r.bank r.live).inFlight ∧
    (acceptCommit r).readCursor = r.readCursor ∧ (acceptCommit r).writeCursor = r.writeCursor := by
  obtain hnone | hsome := Nat.eq_zero_or_pos (r.bank r.live).inFlight
  · rw [acceptCommit_of_none_inFlight hnone]
    obtain ⟨hlive, -, hkept, -, -, hread, hwrite⟩ := refill_eq { r with live := r.live.other }
    exact ⟨hlive, hkept, refill_inFlight _ r.live, hread, hwrite⟩
  · rw [acceptCommit_of_inFlight hsome]
    exact ⟨rfl, rfl, rfl, rfl, rfl⟩

/-- With no jar in flight the former LIVE bank becomes a copy of the new one, with its signature. -/
theorem acceptCommit_copies {r : Rcs} (h : (r.bank r.live).inFlight = 0) :
    (acceptCommit r).retiring = false ∧ ((acceptCommit r).bank r.live).words = (r.bank r.live.other).words ∧
    (acceptCommit r).signature = bankSignature (r.bank r.live.other).words := by
  rw [acceptCommit_of_none_inFlight h]
  obtain ⟨-, hretiring, -, hcopy, hsig, -⟩ := refill_eq { r with live := r.live.other }
  rw [other_other] at hcopy
  exact ⟨hretiring, (congrArg Bank.words hcopy :), hsig⟩

/-! ### The request -/

section
variable {s : State} {tag : Byte} {expected : Word}

/-- A refused COMMIT is answered, with no other effect. -/
theorem requestCommit_refused {st : Status} {data : List Byte} (hserved : PortServed s)
    (hcheck : commitCheck s.rcs expected = (st, data)) (hst : st ≠ .accepted) :
    requestCommit tag expected s = s.setLif (requestCommit tag expected s).lif ∧
    Answered s 7 tag st.code data (requestCommit tag expected s).lif := by
  have hrefused : requestCommit tag expected s = respond 7 tag st data s := by simp [requestCommit, hcheck, hst]
  rw [hrefused]
  exact ⟨respond_eq_setLif 7 tag st data s, answered_respond hserved 7 tag st data⟩

/-- An accepted COMMIT swaps the banks and is answered, with no other effect. -/
theorem requestCommit_accepted (hserved : PortServed s) (hcheck : commitCheck s.rcs expected = (.accepted, [])) :
    requestCommit tag expected s = (s.setRcs (acceptCommit s.rcs)).setLif (requestCommit tag expected s).lif ∧
    Answered s 7 tag 1 [] (requestCommit tag expected s).lif := by
  have haccepted : requestCommit tag expected s = respond 7 tag .accepted [] (s.setRcs (acceptCommit s.rcs)) := by
    simp [requestCommit, hcheck]
  rw [haccepted]
  exact ⟨respond_eq_setLif 7 tag .accepted [] (s.setRcs (acceptCommit s.rcs)),
    answered_respond (s := s.setRcs (acceptCommit s.rcs)) hserved 7 tag .accepted []⟩

end

/-- Settles O39: each row gives the result of the checks, and that result the response and the effect. -/
theorem commitChecksAndSwaps : Obligations.CommitChecksAndSwaps := by
  intro tag expected s hserved
  refine ⟨requestCommit tag expected s, rfl, fun hretiring => ?busy, fun hspare hsig => ?mismatch,
    fun n hspare hsig hn hfirst => ?disordered, fun hspare hsig hnone => ?accepted⟩
  case busy => exact requestCommit_refused hserved (commitCheck_of_retiring hretiring) (by decide)
  case mismatch => exact requestCommit_refused hserved (commitCheck_of_mismatch hspare hsig) (by decide)
  case disordered =>
    exact requestCommit_refused hserved (commitCheck_of_disordered hspare hsig hn hfirst) (by decide)
  case accepted =>
    obtain ⟨hstate, hanswer⟩ :=
      requestCommit_accepted (tag := tag) hserved (commitCheck_of_ordered hspare hsig hnone)
    have hrcs : (requestCommit tag expected s).rcs = acceptCommit s.rcs := by rw [hstate]; rfl
    obtain ⟨hlive, hkept, hcount, hread, hwrite⟩ := acceptCommit_keeps s.rcs
    rw [hrcs]
    refine ⟨hstate, hanswer, hlive, hkept, hcount, hread, hwrite, fun hinFlight => ?_, acceptCommit_copies⟩
    rw [acceptCommit_of_inFlight hinFlight]
    exact ⟨rfl, rfl, rfl⟩

end Sys2Proof.Machine
end

section
/-! The Seal Check Unit's two commands (R110, R112, R113): the window an edge opens, and what a sample does to the ring and to
each state of the window. -/

namespace Sys2Proof.Machine

/-! ### The jar-eye edge (R112) -/

theorem openWindow_toNat (w : Word) :
    openWindow w.toNat = if w = 0 then .collecting [] 0 else .settling w.toNat 0 := by
  have hzero : w.toNat = 0 ↔ w = 0 := BitVec.toNat_inj (y := 0)
  simp only [openWindow, hzero]

/-- Settles O22: the window that the edge opens, by the settle count. -/
theorem jarEyeEdgeOpensWindow : Obligations.JarEyeEdgeOpensWindow := by
  intro s
  have hedge : exec .jarEyeEdge s =
      .next (s.setScu { s.scu with window := openWindow (s.configWord .settleCount).toNat }) := rfl
  rw [hedge, openWindow_toNat]

/-! ### The clamp (R110) -/

theorem clampSample_eq (v : Int) : clampSample v = if v < -500 then -500 else if 2500 < v then 2500 else v := by
  unfold clampSample clampInt
  split_ifs <;> omega

/-- A sample counts as clamped when it lies outside the range. -/
theorem clampSample_bne (v : Int) : (clampSample v != v) = decide (v < -500 ∨ 2500 < v) := by
  rw [Bool.eq_iff_iff, bne_iff_ne, decide_eq_true_iff, clampSample_eq]
  split_ifs <;> omega

/-! ### A sample by the state of the window (R113) -/

section
variable {s : State} {v : Int} {samples : List Int} {n : Nat}

theorem takeSample_of_closed (h : s.scu.window = .closed) :
    takeSample v s = s.setScu (writeRing (clampSample v) s.scu) := by
  have hwindow : (s.setScu (writeRing (clampSample v) s.scu)).scu.window = .closed := h
  simp only [takeSample, windowSample, hwindow]

theorem takeSample_of_settling {settle skipped : Nat} (h : s.scu.window = .settling settle skipped) :
    takeSample v s = s.setScu { writeRing (clampSample v) s.scu with
      window := if skipped + 1 = settle then .collecting [] 0 else .settling settle (skipped + 1) } := by
  have hwindow : (s.setScu (writeRing (clampSample v) s.scu)).scu.window = .settling settle skipped := h
  simp only [takeSample, windowSample, hwindow]
  rfl

theorem takeSample_of_collecting (h : s.scu.window = .collecting samples n) (hfew : samples.length < 7) :
    takeSample v s = s.setScu { writeRing (clampSample v) s.scu with
      window := .collecting (samples ++ [clampSample v]) (if v < -500 ∨ 2500 < v then n + 1 else n) } := by
  have hwindow : (s.setScu (writeRing (clampSample v) s.scu)).scu.window = .collecting samples n := h
  have hopen : ¬8 ≤ (samples ++ [clampSample v]).length := by rw [List.length_append, List.length_singleton]; omega
  simp only [takeSample, windowSample, hwindow, hopen, clampSample_bne, decide_eq_true_eq, if_false]
  rfl

/-- The eighth sample closes the window and completes the measurement (R113, R114). -/
theorem takeSample_of_seven (h : s.scu.window = .collecting samples n) (hseven : samples.length = 7) :
    takeSample v s = completeMeasurement (samples ++ [clampSample v]) (if v < -500 ∨ 2500 < v then n + 1 else n)
      (s.setScu { writeRing (clampSample v) s.scu with window := .closed }) := by
  have hwindow : (s.setScu (writeRing (clampSample v) s.scu)).scu.window = .collecting samples n := h
  have hfull : 8 ≤ (samples ++ [clampSample v]).length := by simp [hseven]
  simp only [takeSample, windowSample, hwindow, hfull, clampSample_bne, decide_eq_true_eq, if_true]
  rfl

end

/-! ### A sample in the ring (R110) -/

/-- What the window does with a sample keeps the ring. -/
theorem windowSample_ring (v : Int) (clamped : Bool) (s : State) :
    (windowSample v clamped s).scu.ring = s.scu.ring ∧ (windowSample v clamped s).scu.writeIndex = s.scu.writeIndex := by
  unfold windowSample
  split
  next => exact ⟨rfl, rfl⟩
  next => exact ⟨rfl, rfl⟩
  next =>
    dsimp only
    split
    · simp
    · exact ⟨rfl, rfl⟩

theorem takeSample_ring (v : Int) (s : State) :
    (takeSample v s).scu.ring = s.scu.ring.setIfInBounds s.scu.writeIndex (clampSample v) ∧
    (takeSample v s).scu.writeIndex = (s.scu.writeIndex + 1) % 64 := windowSample_ring _ _ _

theorem succ_mod_ring {i : Nat} (h : i < 64) : (i + 1) % 64 = if i = 63 then 0 else i + 1 := by
  split <;> omega

/-- Settles O23: the ring takes the sample in every state of the window, and the window by its equation for each state. -/
theorem sampleTaken : Obligations.SampleTaken := by
  intro x s hindex
  obtain ⟨hring, hwrite⟩ := takeSample_ring x.toInt s
  refine ⟨takeSample x.toInt s, rfl, fun i => ?entry, ?index, fun hclosed => ?closed,
    fun settle skipped hsettling => ?settling, fun samples n hcollecting hfew => ?collecting,
    fun samples n hcollecting hseven => ?eighth⟩
  case entry => simp only [hring, Vector.getElem_setIfInBounds, clampSample_eq, eq_comm]
  case index => rw [hwrite, succ_mod_ring hindex]
  case closed =>
    rw [takeSample_of_closed hclosed]
    exact ⟨hclosed, rfl⟩
  case settling =>
    rw [takeSample_of_settling hsettling]
    exact ⟨rfl, rfl⟩
  case collecting =>
    rw [takeSample_of_collecting hcollecting hfew]
    exact ⟨rfl, rfl⟩
  case eighth =>
    rw [takeSample_of_seven hcollecting hseven]
    simp

end Sys2Proof.Machine
end

section
/-! The arithmetic of a seal verdict (R118 to R121): the expected deflection, the trimmed mean and the order of the tests. -/

namespace Sys2Proof.Machine

/-! ### The expected deflection (R118) -/

/-- The share q of the flush reached, in 256ths: step 3 of R118. -/
def flushShare (F Ft : Nat) : Nat := if Ft = 0 then (if 1 ≤ F then 256 else 0) else min F Ft * 256 / Ft

theorem expectedDeflection_eq (T F Ft B S Tr : Nat) :
    expectedDeflection T F Ft B S Tr =
      min ((B + S * min (T - Tr) 400 / 10) * (128 + flushShare F Ft / 2) / 256) 2000 := rfl

theorem flushShare_of_zero {Ft : Nat} (F : Nat) (h : Ft = 0) : flushShare F Ft = if F = 0 then 0 else 256 := by
  rw [flushShare, if_pos h]
  split_ifs <;> omega

theorem flushShare_bounds {Ft : Nat} (F : Nat) (h : Ft ≠ 0) :
    flushShare F Ft * Ft ≤ min F Ft * 256 ∧ min F Ft * 256 < (flushShare F Ft + 1) * Ft := by
  rw [flushShare, if_neg h, Nat.succ_mul]
  exact ⟨Nat.div_mul_le_self _ _, Nat.lt_div_mul_add (Nat.pos_of_ne_zero h)⟩

theorem flushShare_le (F Ft : Nat) : flushShare F Ft ≤ 256 := by
  unfold flushShare
  split_ifs
  · exact le_rfl
  · exact Nat.zero_le _
  · exact Nat.div_le_of_le_mul (Nat.mul_le_mul_right 256 (min_le_right F Ft))

/-- The rise with temperature is at most 2520: 63 tenths for each of 400 decidegrees. -/
theorem slope_mul_le {S : Nat} (d : Nat) (hS : S ≤ 63) : S * min d 400 ≤ 25200 :=
  Nat.mul_le_mul hS (min_le_right d 400)

/-- Settles O26: each division of R118 lies between its bounds. -/
theorem expectedDeflectionSteps : Obligations.ExpectedDeflectionSteps := by
  intro T F Ft B S Tr hB hS _
  have hrise := slope_mul_le (T - Tr) hS
  refine ⟨min (T - Tr) 400, B + S * min (T - Tr) 400 / 10, flushShare F Ft,
    (B + S * min (T - Tr) 400 / 10) * (128 + flushShare F Ft / 2) / 256, ?difference, ?base, flushShare_of_zero F,
    flushShare_bounds F, flushShare_le F Ft, ?product, ?clamp⟩
  case difference => omega
  case base =>
    generalize S * min (T - Tr) 400 = rise at hrise ⊢
    omega
  case product =>
    generalize (B + S * min (T - Tr) 400 / 10) * (128 + flushShare F Ft / 2) = product
    omega
  case clamp =>
    rw [expectedDeflection_eq]
    split_ifs <;> omega

/-! ### The trimmed mean (R119) -/

section
variable {l l' : List Int} {v : Int}

theorem max?_eq_listMax (h : l ≠ []) : l.max? = some (listMax l) := by
  obtain ⟨x, xs, rfl⟩ := List.exists_cons_of_ne_nil h
  exact List.max?_cons'

theorem min?_eq_listMin (h : l ≠ []) : l.min? = some (listMin l) := by
  obtain ⟨x, xs, rfl⟩ := List.exists_cons_of_ne_nil h
  exact List.min?_cons'

theorem listMax_mem (h : l ≠ []) : listMax l ∈ l := (List.max?_eq_some_iff.1 (max?_eq_listMax h)).1

theorem listMin_mem (h : l ≠ []) : listMin l ∈ l := (List.min?_eq_some_iff.1 (min?_eq_listMin h)).1

theorem le_listMax (hv : v ∈ l) : v ≤ listMax l :=
  (List.max?_eq_some_iff.1 (max?_eq_listMax (List.ne_nil_of_mem hv))).2 v hv

theorem listMin_le (hv : v ∈ l) : listMin l ≤ v :=
  (List.min?_eq_some_iff.1 (min?_eq_listMin (List.ne_nil_of_mem hv))).2 v hv

theorem listMax_perm (hp : l.Perm l') : listMax l = listMax l' := by
  obtain rfl | hne := eq_or_ne l []
  · rw [hp.nil_eq]
  · have hne' : l' ≠ [] := fun he => hne (List.perm_nil.1 (he ▸ hp))
    exact le_antisymm (le_listMax (hp.mem_iff.1 (listMax_mem hne))) (le_listMax (hp.mem_iff.2 (listMax_mem hne')))

theorem listMin_perm (hp : l.Perm l') : listMin l = listMin l' := by
  obtain rfl | hne := eq_or_ne l []
  · rw [hp.nil_eq]
  · have hne' : l' ≠ [] := fun he => hne (List.perm_nil.1 (he ▸ hp))
    exact le_antisymm (listMin_le (hp.mem_iff.2 (listMin_mem hne'))) (listMin_le (hp.mem_iff.1 (listMin_mem hne)))

/-- The order of the samples does not matter. -/
theorem trimmedMean_perm (hp : l.Perm l') : trimmedMean l = trimmedMean l' := by
  rw [trimmedMean, trimmedMean, hp.sum_eq, listMax_perm hp, listMin_perm hp]

/-- A list that loses one of its largest values still holds its smallest: where the two are equal, so are all the values. -/
theorem listMin_mem_erase (h : 2 ≤ l.length) : listMin l ∈ l.erase (listMax l) := by
  have hne : l ≠ [] := List.ne_nil_of_length_pos (by omega)
  obtain heq | hdiff := eq_or_ne (listMin l) (listMax l)
  · have hlength : (l.erase (listMax l)).length = l.length - 1 := List.length_erase_of_mem (listMax_mem hne)
    obtain ⟨v, hv⟩ := List.exists_mem_of_length_pos (l := l.erase (listMax l)) (by omega)
    have hmem : v ∈ l := List.mem_of_mem_erase hv
    have hsame : listMin l = v := le_antisymm (listMin_le hmem) (heq ▸ le_listMax hmem)
    rwa [hsame]
  · exact (List.mem_erase_of_ne hdiff).2 (listMin_mem hne)

/-- The samples left when a largest and a smallest one are removed. -/
def trimmed (l : List Int) : List Int := (l.erase (listMax l)).erase (listMin l)

theorem perm_trimmed (h : 2 ≤ l.length) : l.Perm (listMax l :: listMin l :: trimmed l) :=
  (List.perm_cons_erase (listMax_mem (List.ne_nil_of_length_pos (by omega)))).trans
    ((List.perm_cons_erase (listMin_mem_erase h)).cons _)

theorem sum_trimmed (h : 2 ≤ l.length) : (trimmed l).sum = l.sum - listMax l - listMin l := by
  have hsum := (perm_trimmed h).sum_eq
  simp only [List.sum_cons] at hsum
  omega

theorem length_trimmed (h : 2 ≤ l.length) : (trimmed l).length + 2 = l.length := (perm_trimmed h).length_eq.symm

theorem mem_of_mem_trimmed (hv : v ∈ trimmed l) : v ∈ l := List.mem_of_mem_erase (List.mem_of_mem_erase hv)

/-- The division of R119 rounds toward minus infinity. -/
theorem trimmedMean_bounds (l : List Int) :
    6 * trimmedMean l ≤ l.sum - listMax l - listMin l + 3 ∧
    l.sum - listMax l - listMin l + 3 < 6 * trimmedMean l + 6 := by
  rw [trimmedMean, Int.fdiv_eq_ediv_of_nonneg _ (by decide)]
  omega

/-- Six samples in range have a sum in six times the range. -/
theorem sum_trimmed_range (h : l.length = 8) (hrange : ∀ v ∈ l, -500 ≤ v ∧ v ≤ 2500) :
    -3000 ≤ (trimmed l).sum ∧ (trimmed l).sum ≤ 15000 := by
  have hsix : (trimmed l).length = 6 := by
    have := length_trimmed (l := l) (by omega)
    omega
  have hlow := List.card_nsmul_le_sum (trimmed l) (-500) fun v hv => (hrange v (mem_of_mem_trimmed hv)).1
  have hhigh := List.sum_le_card_nsmul (trimmed l) 2500 fun v hv => (hrange v (mem_of_mem_trimmed hv)).2
  rw [hsix] at hlow hhigh
  exact ⟨by simpa using hlow, by simpa using hhigh⟩

end

/-- Settles O27: the largest and the smallest sample are the two removed, and the bounds on the six others bound their mean. -/
theorem trimmedMeanOfSix : Obligations.TrimmedMeanOfSix := by
  intro samples hlength hrange
  have hne : samples ≠ [] := List.ne_nil_of_length_pos (by omega)
  obtain ⟨hfloor, hceil⟩ := trimmedMean_bounds samples
  have hsix := sum_trimmed_range hlength hrange
  rw [sum_trimmed (by omega)] at hsix
  exact ⟨listMax samples, listMax_mem hne, listMin samples, listMin_mem hne,
    fun v hv => ⟨listMin_le hv, le_listMax hv⟩, hfloor, hceil, hsix.1, hsix.2, by omega, by omega,
    fun _ hp => trimmedMean_perm hp⟩

/-! ### The seal verdict (R117, R120, R121) -/

theorem weakThreshold_bounds (E W : Nat) :
    16 * weakThreshold E W ≤ E * W ∧ E * W < 16 * weakThreshold E W + 16 := by
  unfold weakThreshold
  omega

/-- The tests of R121 in order. -/
theorem sealVerdictOf_rows (M : Int) (E W L H : Nat) :
    (sealVerdictOf M E W L H = .leak ↔ M < L) ∧
    (sealVerdictOf M E W L H = .weak ↔ ¬M < L ∧ M < weakThreshold E W) ∧
    (sealVerdictOf M E W L H = .overdrawn ↔ ¬M < L ∧ ¬M < weakThreshold E W ∧ (E : Int) + H < M) ∧
    (sealVerdictOf M E W L H = .sealed ↔ ¬M < L ∧ ¬M < weakThreshold E W ∧ ¬(E : Int) + H < M) := by
  unfold sealVerdictOf
  split_ifs with hleak hweak hoverdrawn
  · simp [hleak]
  · simp [hleak, hweak]
  · simp [hleak, hweak, hoverdrawn]
  · simp [hleak, hweak, hoverdrawn]

section
variable {r : Rcs} {j : Jar} {m : Option Int}

theorem verdictOf_of_unusable (h : j.usable = false) : verdictOf r j m = .noVerdict := by
  simp [verdictOf, h]

theorem verdictOf_none (h : j.usable = true) : verdictOf r j none = .noMeasurement := by
  simp [verdictOf, h]

theorem verdictOf_some (M : Int) (h : j.usable = true) : verdictOf r j (some M) =
    sealVerdictOf M (expectedOf r j) (r.jarField j .weakRatio) (r.jarField j .leakFloor) (r.jarField j .overdrawMargin) := by
  simp [verdictOf, h]

end

/-- Settles O28: a jar without recipe or measurement has its verdict from that, any other from the tests in order. -/
theorem sealVerdictRows : Obligations.SealVerdictRows := by
  intro s j m
  refine ⟨verdictOf_of_unusable, fun husable hm => ?unmeasured, fun M husable hm => ?measured⟩
  case unmeasured => rw [hm, verdictOf_none husable]
  case measured =>
    rw [hm, verdictOf_some M husable]
    obtain ⟨hfloor, hceil⟩ := weakThreshold_bounds (expectedOf s.rcs j) (s.rcs.jarField j .weakRatio)
    exact ⟨weakThreshold (expectedOf s.rcs j) (s.rcs.jarField j .weakRatio), hfloor, hceil, sealVerdictOf_rows _ _ _ _ _⟩

end Sys2Proof.Machine
end

section
/-! The disposition of a jar (R125 to R127): the order of the reject causes, and the full period of the audit register. -/

namespace Sys2Proof.Machine

/-! ### The order of the reject causes (R125) -/

/-- The "Applies when" column of R125. -/
def CauseApplies (inbound : Byte) (c : Closure) (v : SealVerdict) : RejectCause → Prop
  | .upstream => inbound = 2
  | .untracked => c = .untracked
  | .noRecipe => c = .noRecipe
  | .headLost => c = .headLost
  | .notCapped => c = .notCapped
  | .overTorque => c = .overTorque
  | .crossThread => c = .crossThread
  | .underTorque => c = .underTorque
  | .noMeasurement => v = .noMeasurement
  | .leak => v = .leak
  | .weak => v = .weak
  | .overdrawn => v = .overdrawn

/-- The "Cause" column of R125, in order. -/
def causeRows : List RejectCause :=
  [.upstream, .untracked, .noRecipe, .headLost, .notCapped, .overTorque, .crossThread, .underTorque, .noMeasurement,
    .leak, .weak, .overdrawn]

theorem causeRows_getElem?_code (x : RejectCause) : causeRows[x.code - 1]? = some x := by cases x <;> rfl

theorem rejectCause_code_injective : Function.Injective RejectCause.code := fun x y h =>
  Option.some.inj (by rw [← causeRows_getElem?_code x, h, causeRows_getElem?_code])

theorem rejectCause_code_pos (x : RejectCause) : 1 ≤ x.code := by cases x <;> decide

section
variable {inbound : Byte} {c : Closure} {v : SealVerdict} {x : RejectCause}

theorem closureCause_code (h : closureCause c = some x) : 2 ≤ x.code ∧ x.code ≤ 8 := by
  cases c <;> cases h <;> decide

theorem verdictCause_code (h : verdictCause v = some x) : 9 ≤ x.code := by
  cases v <;> cases h <;> decide

theorem causeApplies_iff :
    CauseApplies inbound c v x ↔ (inbound = 2 ∧ x = .upstream) ∨ closureCause c = some x ∨ verdictCause v = some x := by
  constructor
  · cases x <;> rintro rfl <;> simp [closureCause, verdictCause]
  · rintro (⟨h, rfl⟩ | h | h)
    · exact h
    · cases c <;> cases h <;> rfl
    · cases v <;> cases h <;> rfl

theorem rejectCause_branch_some : rejectCause inbound c v = some x ↔
    (inbound = 2 ∧ x = .upstream) ∨ (inbound ≠ 2 ∧ closureCause c = some x) ∨
      (inbound ≠ 2 ∧ closureCause c = none ∧ verdictCause v = some x) := by
  unfold rejectCause
  split_ifs with hinbound
  · simp [hinbound, eq_comm]
  · rw [Option.or_eq_some_iff]
    tauto

theorem rejectCause_branch_none : rejectCause inbound c v = none ↔
    inbound ≠ 2 ∧ closureCause c = none ∧ verdictCause v = none := by
  unfold rejectCause
  split_ifs with hinbound
  · simp [hinbound]
  · rw [Option.or_eq_none_iff]
    tauto

theorem causeApplies_of_rejectCause (h : rejectCause inbound c v = some x) : CauseApplies inbound c v x := by
  rw [causeApplies_iff]
  obtain h | ⟨-, h⟩ | ⟨-, -, h⟩ := rejectCause_branch_some.1 h
  · exact .inl h
  · exact .inr (.inl h)
  · exact .inr (.inr h)

theorem rejectCause_eq_none_iff : rejectCause inbound c v = none ↔ ∀ x, ¬CauseApplies inbound c v x := by
  constructor
  · intro h x hx
    obtain ⟨hinbound, hclosure, hverdict⟩ := rejectCause_branch_none.1 h
    obtain ⟨h2, -⟩ | hx | hx := causeApplies_iff.1 hx
    · exact hinbound h2
    · simp [hclosure] at hx
    · simp [hverdict] at hx
  · exact fun h => Option.eq_none_iff_forall_ne_some.2 fun x hx => h x (causeApplies_of_rejectCause hx)

/-- The closure causes come after UPSTREAM and before the seal causes. -/
theorem rejectCause_le_of_causeApplies {y : RejectCause} (h : rejectCause inbound c v = some x)
    (hy : CauseApplies inbound c v y) : x.code ≤ y.code := by
  obtain ⟨-, rfl⟩ | ⟨hinbound, hx⟩ | ⟨hinbound, hclosure, hx⟩ := rejectCause_branch_some.1 h
  · exact rejectCause_code_pos y
  · obtain ⟨h2, -⟩ | hy | hy := causeApplies_iff.1 hy
    · exact absurd h2 hinbound
    · exact (congrArg RejectCause.code (Option.some.inj (hx.symm.trans hy))).le
    · obtain ⟨-, hclosure⟩ := closureCause_code hx
      have hverdict := verdictCause_code hy
      omega
  · obtain ⟨h2, -⟩ | hy | hy := causeApplies_iff.1 hy
    · exact absurd h2 hinbound
    · simp [hclosure] at hy
    · exact (congrArg RejectCause.code (Option.some.inj (hx.symm.trans hy))).le

theorem rejectCause_eq_some_iff : rejectCause inbound c v = some x ↔
    CauseApplies inbound c v x ∧ ∀ y, y.code < x.code → ¬CauseApplies inbound c v y := by
  constructor
  · exact fun h => ⟨causeApplies_of_rejectCause h, fun y hlt hy => hlt.not_ge (rejectCause_le_of_causeApplies h hy)⟩
  · rintro ⟨hx, hfirst⟩
    cases hfound : rejectCause inbound c v with
    | none => exact absurd hx (rejectCause_eq_none_iff.1 hfound x)
    | some z =>
      have hle : z.code ≤ x.code := rejectCause_le_of_causeApplies hfound hx
      have hge : x.code ≤ z.code := not_lt.1 fun hlt => hfirst z hlt (causeApplies_of_rejectCause hfound)
      rw [rejectCause_code_injective (hle.antisymm hge)]

end

/-- Settles O29: the cause found applies, no cause that applies has a lower number, and no two have the same. -/
theorem rejectCauseOrder : Obligations.RejectCauseOrder :=
  fun _ _ _ => ⟨fun _ => rejectCause_eq_some_iff, rejectCause_eq_none_iff⟩

/-! ### One step of the audit register (R127) -/

theorem toNat_pos_of_ne_zero {r : BitVec 10} (h : r ≠ 0) : 0 < r.toNat := Nat.pos_of_ne_zero (BitVec.toNat_ne.1 h)

theorem toNat_mem_Ioc_of_ne_zero {r : BitVec 10} (h : r ≠ 0) : r.toNat ∈ Finset.Ioc 0 1023 :=
  Finset.mem_Ioc.2 ⟨toNat_pos_of_ne_zero h, Nat.le_of_lt_succ r.isLt⟩

/-- The new stage: 1 exactly when stage 9 and stage 6 differ. -/
theorem newStage_toNat (r : BitVec 10) : (r.getLsbD 9 ^^ r.getLsbD 6).toNat =
    if r.toNat / 512 % 2 = r.toNat / 64 % 2 then 0 else 1 := by
  have hstage (i : Nat) : r.getLsbD i = decide (r.toNat / 2 ^ i % 2 = 1) := by
    rw [BitVec.getLsbD, Nat.testBit_eq_decide_div_mod_eq]
  rw [hstage 9, hstage 6]
  obtain h9 | h9 := Nat.mod_two_eq_zero_or_one (r.toNat / 512) <;>
    obtain h6 | h6 := Nat.mod_two_eq_zero_or_one (r.toNat / 64) <;> simp [h9, h6]

theorem auditStep_toNat (r : BitVec 10) : (auditStep r).toNat =
    2 * r.toNat % 1024 + (if r.toNat / 512 % 2 = r.toNat / 64 % 2 then 0 else 1) := by
  have hone := Bool.toNat_le (r.getLsbD 9 ^^ r.getLsbD 6)
  rw [← newStage_toNat]
  simp only [auditStep, BitVec.toNat_add, BitVec.toNat_shiftLeft, BitVec.toNat_setWidth, BitVec.toNat_ofBool,
    Nat.shiftLeft_eq]
  omega

/-- A step from 512 gives 1, and the double of any other non-zero value is not 0 modulo 1024. -/
theorem auditStep_ne_zero {r : BitVec 10} (h : r ≠ 0) : auditStep r ≠ 0 := by
  have hpos : 0 < r.toNat := toNat_pos_of_ne_zero h
  have hlt : r.toNat < 1024 := r.isLt
  refine BitVec.toNat_ne.2 (Nat.ne_of_gt (?_ : 0 < _))
  rw [auditStep_toNat]
  split_ifs <;> omega

/-! ### The period of the audit register (spec/08 section 8.3) -/

/-- A point that comes back after `n` steps, and not after `n / p` steps for a prime factor `p` of `n`, comes back after no
number of steps below `n`. -/
theorem minimalPeriod_eq_of_div_prime {α : Type} {f : α → α} {x : α} {n : Nat} (hback : f.IsPeriodicPt n x)
    (hprime : ∀ p, p.Prime → p ∣ n → ¬f.IsPeriodicPt (n / p) x) : f.minimalPeriod x = n := by
  obtain ⟨q, hq⟩ := hback.minimalPeriod_dvd
  obtain rfl | hne := eq_or_ne q 1
  · rw [hq, mul_one]
  · obtain ⟨p, hp, k, rfl⟩ := Nat.exists_prime_and_dvd hne
    have hdiv : n / p = f.minimalPeriod x * k := by
      rw [hq, mul_left_comm, Nat.mul_div_cancel_left _ hp.pos]
    refine absurd ?_ (hprime p hp (hq ▸ (Nat.dvd_mul_right p k).mul_left _))
    rw [hdiv]
    exact (Function.isPeriodicPt_minimalPeriod f x).mul_const k

/-- The register is back at 1 after 1023 = 3 · 11 · 31 steps, and not after 341, 93 or 33. -/
theorem auditStep_minimalPeriod_one : auditStep.minimalPeriod 1 = 1023 := by
  refine minimalPeriod_eq_of_div_prime (by decide +kernel) fun p hp hdvd => ?_
  have hfactor : p = 3 ∨ p = 11 ∨ p = 31 := by
    simpa using (Nat.mem_primeFactorsList (n := 1023) (by decide)).2 ⟨hp, hdvd⟩
  obtain rfl | rfl | rfl := hfactor <;> decide +kernel

theorem auditStep_iterate_ne_zero {x : BitVec 10} (hx : x ≠ 0) (n : Nat) : auditStep^[n] x ≠ 0 :=
  Set.MapsTo.iterate (s := {r | r ≠ 0}) (fun _ => auditStep_ne_zero) n hx

section
variable {x : BitVec 10}

theorem auditStep_iterate_injOn (hperiod : auditStep.minimalPeriod x = 1023) :
    Set.InjOn (fun n => (auditStep^[n] x).toNat) (Finset.range 1023) := by
  intro m hm n hn h
  rw [Finset.coe_range, ← hperiod] at hm hn
  exact Function.iterate_injOn_Iio_minimalPeriod hm hn (BitVec.eq_of_toNat_eq h)

/-- A run over one period passes through every non-zero value once. -/
theorem image_auditStep_iterate (hx : x ≠ 0) (hperiod : auditStep.minimalPeriod x = 1023) :
    (Finset.range 1023).image (fun n => (auditStep^[n] x).toNat) = Finset.Ioc 0 1023 := by
  refine Finset.eq_of_subset_of_card_le (Finset.image_subset_iff.2 fun n _ => ?_) ?_
  · exact toNat_mem_Ioc_of_ne_zero (auditStep_iterate_ne_zero hx n)
  · rw [Finset.card_image_of_injOn (auditStep_iterate_injOn hperiod), Finset.card_range, Nat.card_Ioc]

theorem exists_auditStep_iterate_eq (hx : x ≠ 0) (hperiod : auditStep.minimalPeriod x = 1023) {r : BitVec 10} (hr : r ≠ 0) :
    ∃ n, n < 1023 ∧ auditStep^[n] x = r := by
  have hmem := toNat_mem_Ioc_of_ne_zero hr
  rw [← image_auditStep_iterate hx hperiod] at hmem
  obtain ⟨n, hn, h⟩ := Finset.mem_image.1 hmem
  exact ⟨n, Finset.mem_range.1 hn, BitVec.eq_of_toNat_eq h⟩

/-- Over a period an exponent selects the multiples of 2^k within 1..1023. -/
theorem countP_auditSelects (hx : x ≠ 0) (hperiod : auditStep.minimalPeriod x = 1023) {k : Nat} (hk : 1 ≤ k) :
    (List.range 1023).countP (fun n => auditSelects (auditStep^[n] x) k) = 1023 / 2 ^ k := by
  have hselects (n : Nat) : auditSelects (auditStep^[n] x) k = decide (2 ^ k ∣ (auditStep^[n] x).toNat) := by
    simp [auditSelects, hk, Nat.dvd_iff_mod_eq_zero]
  calc (List.range 1023).countP (fun n => auditSelects (auditStep^[n] x) k)
      = ((Finset.range 1023).filter fun n => 2 ^ k ∣ (auditStep^[n] x).toNat).card := by
        rw [List.countP_congr fun n _ => by rw [hselects], List.countP_eq_length_filter]
        rfl
    _ = (((Finset.range 1023).image fun n => (auditStep^[n] x).toNat).filter (2 ^ k ∣ ·)).card := by
        rw [Finset.filter_image, Finset.card_image_of_injOn]
        exact (auditStep_iterate_injOn hperiod).mono (Finset.filter_subset _ _)
    _ = 1023 / 2 ^ k := by rw [image_auditStep_iterate hx hperiod, Nat.Ioc_filter_dvd_card_eq_div]

end

theorem div_two_pow_of_full_period {k : Nat} (hk : k ≤ 10) : 1023 / 2 ^ k = 2 ^ (10 - k) - 1 := by
  interval_cases k <;> rfl

/-- Settles O30: the register's least period from 1 is 1023, the number of its non-zero values, so one period meets each of
them once; the selections are counted from the value after the first step, which has the same period. -/
theorem auditRegisterPeriod : Obligations.AuditRegisterPeriod := by
  have hback : auditStep^[1023] 1 = 1 := by
    rw [← auditStep_minimalPeriod_one, Function.iterate_minimalPeriod]
  refine ⟨auditStep_toNat, fun _ => auditStep_ne_zero,
    fun r hr => exists_auditStep_iterate_eq (by decide) auditStep_minimalPeriod_one hr, hback, fun k hk hk8 => ?_⟩
  have hsecond : auditStep.minimalPeriod (auditStep 1) = 1023 := by
    rw [Function.minimalPeriod_apply ⟨1023, by decide, hback⟩, auditStep_minimalPeriod_one]
  rw [← div_two_pow_of_full_period (by omega), ← countP_auditSelects (auditStep_ne_zero (by decide)) hsecond hk]
  rfl

end Sys2Proof.Machine
end

section
/-! STATUS (R151): its coded bytes and its response; and CURSOR (R154): the tables a number names, the two refusals and the
cursor set. -/

namespace Sys2Proof.Machine

open Sys2Proof.Claims

/-! ### The state and the response -/

/-- A response changes nothing but the Link Interface, where it is pushed. -/
theorem respond_answers {s : State} (hserved : PortServed s) (code tag : Byte) (st : Status) (data : List Byte) :
    respond code tag st data s = s.setLif (respond code tag st data s).lif ∧
    Answered s code tag st.code data (respond code tag st data s).lif :=
  ⟨respond_eq_setLif code tag st data s, answered_respond hserved code tag st data⟩

/-! ### The coded bytes of STATUS (R151, R165) -/

theorem byteOfNat_syncCode (x : Sync) : byteOfNat x.code = if x = .synced then 1#8 else 0#8 := by cases x <;> rfl

theorem byteOfNat_motionCode (x : Motion) : byteOfNat x.code = if x = .moving then 1#8 else 0#8 := by cases x <;> rfl

theorem serviceCode_eq (x : Service) : x.code = if x = .inService then 0 else 1 := by cases x <;> rfl

theorem byteOfNat_roleCode (r : Rcs) (i : BankId) :
    byteOfNat (r.role i).code = if r.live = i then 0#8 else if r.retiring then 2#8 else 1#8 := by
  unfold Rcs.role
  by_cases hlive : r.live = i
  · rw [if_pos hlive.symm, if_pos hlive]
    rfl
  · rw [if_neg (Ne.symm hlive), if_neg hlive]
    cases r.retiring <;> rfl

theorem firstFaultBytes_of_nil {l : FaultList} (h : l.list = []) : firstFaultBytes l = [0, 0, 0, 0] := by
  rw [firstFaultBytes, h]

theorem firstFaultBytes_of_cons {l : FaultList} {e : FaultEntry} {rest : List FaultEntry} (h : l.list = e :: rest) :
    firstFaultBytes l = byteOfNat e.code.code :: wordBytes e.pitch ++ [e.detail] := by
  rw [firstFaultBytes, h]

/-- Settles O31: the response's data are `statusData`, whose coded bytes are those of R151's table, the first fault's
zeros when the list is empty. -/
theorem statusAnswers : Obligations.StatusAnswers := by
  intro tag s hserved
  obtain ⟨hstate, hanswer⟩ : requestStatus tag s = s.setLif (requestStatus tag s).lif ∧
      Answered s 1 tag 0 (statusData s) (requestStatus tag s).lif := respond_answers hserved 1 tag .ok (statusData s)
  refine ⟨requestStatus tag s, rfl, hstate, ?_⟩
  simp only [statusData, headStatusByte, byteOfNat_syncCode, byteOfNat_motionCode, byteOfNat_roleCode,
    serviceCode_eq, FaultList.count] at hanswer
  cases hlist : s.flt.list with
  | nil =>
    rw [firstFaultBytes_of_nil hlist, hlist] at hanswer
    exact hanswer
  | cons e rest =>
    rw [firstFaultBytes_of_cons hlist, hlist] at hanswer
    exact hanswer

/-! ### The tables a cursor can name (R153, R154) -/

theorem tableOfCode_code (t : Table) : tableOfCode t.code = some t := by cases t <;> rfl

theorem tableOfCode_of_outside {n : Nat} (h : n = 0 ∨ 8 < n) : tableOfCode n = none := by
  obtain rfl | h8 := h
  · rfl
  · obtain ⟨k, rfl⟩ := Nat.exists_eq_add_of_le' h8
    rfl

/-- A table with its number and the last index a cursor can have in it (R153, R154). -/
def tableRow (t : Table) : Table × Nat × Nat := (t, t.code, t.length - 1)

theorem code_and_last_of_mem_rows {tables : List Table} {t : Table} {n last : Nat}
    (h : (t, n, last) ∈ tables.map tableRow) : n = t.code ∧ last = t.length - 1 := by
  obtain ⟨u, -, hrow⟩ := List.mem_map.1 h
  cases hrow
  exact ⟨rfl, rfl⟩

/-! ### CURSOR -/

/-- The Recipe Store with the cursor of a CURSOR request set (R154). -/
def withCursor (r : Rcs) (which : Byte) (c : Cursor) : Rcs :=
  if which = 0 then { r with readCursor := c } else { r with writeCursor := c }

section
variable {s : State} {tag which table : Byte} {index : Word}

theorem requestCursor_of_badCursor (hwhich : 1 < which.toNat) :
    requestCursor tag which table index s = refuse 4 tag .badArg s := if_pos hwhich

theorem requestCursor_of_badTable (hwhich : which.toNat ≤ 1) (htable : table.toNat = 0 ∨ 8 < table.toNat) :
    requestCursor tag which table index s = refuse 4 tag .badTable s := by
  rw [requestCursor, if_neg (Nat.not_lt.2 hwhich), tableOfCode_of_outside htable]

theorem requestCursor_of_table {t : Table} (hwhich : which.toNat ≤ 1) (htable : table.toNat = t.code) :
    requestCursor tag which table index s =
      respond 4 tag .ok (table :: wordBytes (wordOfNat (min index.toNat (t.length - 1))))
        (s.setRcs (withCursor s.rcs which ⟨t, min index.toNat (t.length - 1)⟩)) := by
  have hbyte : byteOfNat t.code = table := by rw [← htable, byteOfNat, BitVec.ofNat_toNat, BitVec.setWidth_eq]
  have hzero : which.toNat = 0 ↔ which = 0 := BitVec.toNat_inj (y := 0)
  rw [requestCursor, if_neg (Nat.not_lt.2 hwhich), htable, tableOfCode_code]
  simp only [hbyte, hzero, withCursor]

end

/-- Settles O34: each row gives the request's result, a refusal or the cursor set, and its response. -/
theorem cursorSets : Obligations.CursorSets := by
  intro tag which table index s hserved
  refine ⟨requestCursor tag which table index s, rfl, fun hwhich => ?badCursor, fun hwhich htable => ?badTable,
    fun tbl last hwhich hrow => ?set⟩
  case badCursor =>
    rw [requestCursor_of_badCursor hwhich]
    exact respond_answers hserved 4 tag .badArg []
  case badTable =>
    rw [requestCursor_of_badTable hwhich htable]
    exact respond_answers hserved 4 tag .badTable []
  case set =>
    obtain ⟨hcode, rfl⟩ := code_and_last_of_mem_rows
      (tables := [.live, .spare, .retiring, .lead, .config, .tallies, .sampleRing, .heads]) hrow
    have hheld : (if tbl.length - 1 < index.toNat then tbl.length - 1 else index.toNat) =
        min index.toNat (tbl.length - 1) := by
      rw [min_comm, min_def_lt]
    rw [hheld, requestCursor_of_table hwhich hcode]
    exact respond_answers
      (s := s.setRcs (withCursor s.rcs which ⟨tbl, min index.toNat (tbl.length - 1)⟩)) hserved 4 tag .ok _

end Sys2Proof.Machine
end

section
/-! The Fault List: CLEAR_FAULT with its promotion (R152, R162), and the raising of a code with the bounds of list and
overflow set and the halt request (R161, R163). -/

namespace Sys2Proof.Machine

open Sys2Proof.Claims

/-! ### The codes (R160) -/

theorem faultOfCode_code (c : FaultCode) : faultOfCode c.code = some c := by cases c <;> rfl

theorem faultCode_code_bounds (c : FaultCode) : 1 ≤ c.code ∧ c.code ≤ 16 := by cases c <;> decide

theorem faultCode_code_toNat (c : FaultCode) : (BitVec.ofNat 8 c.code).toNat = c.code := by
  have := faultCode_code_bounds c
  rw [BitVec.toNat_ofNat]
  omega

theorem mem_allFaultCodes (c : FaultCode) : c ∈ allFaultCodes := by cases c <;> decide

/-- There are sixteen codes, so no more can be distinct. -/
theorem length_le_of_nodup_codes {codes : List FaultCode} (h : codes.Nodup) : codes.length ≤ 16 :=
  (h.subperm fun c _ => mem_allFaultCodes c).length_le

theorem isStop_iff (c : FaultCode) : c.isStop = true ↔ c ∈ [FaultCode.linkBlocked, .infeedOverflow, .pitchSkew,
    .strayJar, .recipeUnusable, .capTypeMismatch, .steamLow, .headDriveFault, .headLinkLost, .rejectRun] := by
  cases c <;> decide

/-! ### Clearing one code (R162) -/

section
variable {l : FaultList} {c : FaultCode}

theorem any_code_iff (es : List FaultEntry) (c : FaultCode) :
    es.any (fun e => e.code == c) = true ↔ c ∈ es.map (fun e => e.code) := by
  simp [List.any_eq_true]

theorem filter_code_eq_self {es : List FaultEntry} (h : c ∉ es.map (fun e => e.code)) :
    es.filter (fun e => e.code ≠ c) = es :=
  List.filter_eq_self.2 fun _ he => decide_eq_true fun hcode => h (List.mem_map.2 ⟨_, he, hcode⟩)

theorem filter_code_bne (es : List FaultEntry) (c : FaultCode) :
    es.filter (fun e => e.code != c) = es.filter (fun e => e.code ≠ c) :=
  List.filter_congr fun e _ => by rw [bne, beq_eq_decide, decide_not]

theorem promote_of_nil (h : l.overflow = []) : l.promote = l := by rw [FaultList.promote, h]

theorem promote_of_cons {e : FaultEntry} {rest : List FaultEntry} (h : l.overflow = e :: rest) :
    l.promote = ⟨l.list ++ [e], rest⟩ := by
  rw [FaultList.promote, h]

theorem clearByNumber_code (l : FaultList) (c : FaultCode) : l.clearByNumber c.code = l.clear c := by
  have hpos := faultCode_code_bounds c
  rw [FaultList.clearByNumber, if_neg (by omega), faultOfCode_code]

/-- A code that is not listed can only leave the overflow set. -/
theorem clear_of_not_listed (h : c ∉ l.list.map (fun e => e.code)) :
    l.clear c = ⟨l.list, l.overflow.filter (fun e => e.code ≠ c)⟩ := by
  rw [FaultList.clear, if_neg (mt (any_code_iff _ _).1 h), filter_code_bne]

theorem clear_of_inactive (h : l.active c = false) : l.clear c = l := by
  have hcodes := mt (active_iff l c).2 (Bool.eq_false_iff.1 h)
  rw [List.map_append, List.mem_append, not_or] at hcodes
  rw [clear_of_not_listed hcodes.1, filter_code_eq_self hcodes.2]

theorem clear_of_listed (h : c ∈ l.list.map (fun e => e.code)) :
    l.clear c = FaultList.promote ⟨l.list.filter (fun e => e.code ≠ c), l.overflow⟩ := by
  rw [FaultList.clear, if_pos ((any_code_iff _ _).2 h), filter_code_bne]

/-- In a set held in increasing order, the entry of lowest code is the first, and the rest are those of other codes. -/
theorem eq_cons_filter_of_lowest {es : List FaultEntry} {e : FaultEntry}
    (hsorted : es.Pairwise (fun a b => a.code.code < b.code.code)) (he : e ∈ es)
    (hlowest : ∀ e' ∈ es, e.code.code ≤ e'.code.code) : es = e :: es.filter (fun x => x.code ≠ e.code) := by
  cases es with
  | nil => cases he
  | cons d rest =>
    obtain ⟨hbelow, -⟩ := List.pairwise_cons.1 hsorted
    obtain rfl | hrest := List.mem_cons.1 he
    · have hother : e.code ∉ rest.map (fun x => x.code) := by
        intro hmem
        obtain ⟨x, hx, hcode⟩ := List.mem_map.1 hmem
        exact absurd (hbelow x hx) (by rw [hcode]; exact Nat.lt_irrefl _)
      rw [List.filter_cons_of_neg (by simp), filter_code_eq_self hother]
    · exact absurd (hbelow e hrest) (Nat.not_lt.2 (hlowest d List.mem_cons_self))

/-- The entry of lowest code takes the place that clearing a listed code has freed. -/
theorem clear_promotes {e : FaultEntry} (h : c ∈ l.list.map (fun e => e.code))
    (hsorted : l.overflow.Pairwise (fun a b => a.code.code < b.code.code)) (he : e ∈ l.overflow)
    (hlowest : ∀ e' ∈ l.overflow, e.code.code ≤ e'.code.code) :
    l.clear c = ⟨l.list.filter (fun x => x.code ≠ c) ++ [e], l.overflow.filter (fun x => x.code ≠ e.code)⟩ :=
  (clear_of_listed h).trans (promote_of_cons (eq_cons_filter_of_lowest hsorted he hlowest))

end

/-! ### CLEAR_FAULT -/

section
variable {s : State} {tag code : Byte}

theorem requestClearFault_refused (hserved : PortServed s) (hcode : 16 < code.toNat) :
    requestClearFault tag code s = s.setLif (requestClearFault tag code s).lif ∧
    Answered s 3 tag 4 [] (requestClearFault tag code s).lif := by
  rw [requestClearFault, if_pos hcode]
  exact respond_answers hserved 3 tag .badArg []

/-- A code of 0 to 16 is answered with the active count it leaves (R152). -/
theorem requestClearFault_answered (hserved : PortServed s) (hcode : code.toNat ≤ 16) :
    requestClearFault tag code s =
      (s.setFlt (s.flt.clearByNumber code.toNat)).setLif (requestClearFault tag code s).lif ∧
    Answered s 3 tag 0 [byteOfNat (s.flt.clearByNumber code.toNat).count] (requestClearFault tag code s).lif := by
  rw [requestClearFault, if_neg (Nat.not_lt.2 hcode)]
  exact respond_answers (s := s.setFlt (s.flt.clearByNumber code.toNat)) hserved 3 tag .ok _

end

/-- Settles O33: the list that each code leaves is an equation of `FaultList.clear`; a code of the overflow set is not
listed, since no code stands in both, and the entry of lowest code is the first of the ordered set. -/
theorem clearFaultRemoves : Obligations.ClearFaultRemoves := by
  rintro tag s hserved ⟨-, hnodup, -⟩ hsorted
  refine ⟨⟨requestClearFault tag 0 s, rfl, requestClearFault_answered hserved (by decide)⟩, fun c => ?one,
    fun code hcode => ⟨requestClearFault tag code s, rfl, requestClearFault_refused hserved hcode⟩⟩
  case one =>
    obtain ⟨hstate, hanswer⟩ := requestClearFault_answered (tag := tag) (code := BitVec.ofNat 8 c.code) hserved
      ((faultCode_code_toNat c).trans_le (faultCode_code_bounds c).2)
    rw [faultCode_code_toNat, clearByNumber_code] at hstate hanswer
    have hflt : (requestClearFault tag (BitVec.ofNat 8 c.code) s).flt = s.flt.clear c := by rw [hstate]; rfl
    refine ⟨requestClearFault tag (BitVec.ofNat 8 c.code) s, rfl, ?_⟩
    rw [hflt]
    refine ⟨hstate, hanswer, clear_of_inactive, fun hover => clear_of_not_listed fun hlisted => ?_,
      fun hlisted => ⟨fun hempty => ?_, fun e he hlowest => clear_promotes hlisted hsorted he hlowest⟩⟩
    · rw [List.map_append] at hnodup
      exact List.disjoint_of_nodup_append hnodup hlisted hover
    · rw [clear_of_listed hlisted, hempty]
      exact promote_of_nil rfl

/-! ### Raising a code (R161) -/

section
variable {l : FaultList} {e : FaultEntry}

theorem raise_of_active (h : l.active e.code = true) : l.raise e = l := if_pos h

theorem raise_of_room (h : l.active e.code = false) (hroom : l.list.length < 8) :
    l.raise e = ⟨l.list ++ [e], l.overflow⟩ := by
  simp [FaultList.raise, h, hroom]

theorem raise_of_full (h : l.active e.code = false) (hfull : 8 ≤ l.list.length) :
    l.raise e = ⟨l.list, insertFault e l.overflow⟩ := by
  simp [FaultList.raise, h, Nat.not_lt.2 hfull]

/-- List or overflow set, raising an inactive code adds its entry to those held. -/
theorem held_raise_perm (h : l.active e.code = false) : (l.raise e).held.Perm (e :: l.held) := by
  obtain hroom | hfull := Nat.lt_or_ge l.list.length 8
  · rw [raise_of_room h hroom, FaultList.held, List.append_assoc]
    exact List.perm_middle
  · rw [raise_of_full h hfull, FaultList.held]
    exact ((insertFault_perm e l.overflow).append_left l.list).trans List.perm_middle

/-- Raising keeps the codes held distinct. -/
theorem nodup_held_raise (e : FaultEntry) (h : (l.held.map (fun x => x.code)).Nodup) :
    ((l.raise e).held.map (fun x => x.code)).Nodup := by
  cases hactive : l.active e.code with
  | true => rwa [raise_of_active hactive]
  | false =>
    have hnew : e.code ∉ l.held.map (fun x => x.code) := mt (active_iff l e.code).2 (Bool.eq_false_iff.1 hactive)
    exact ((held_raise_perm hactive).map _).nodup_iff.2 (List.nodup_cons.2 ⟨hnew, h⟩)

theorem active_raise_iff (c : FaultCode) : (l.raise e).active c = true ↔ l.active c = true ∨ e.code = c := by
  by_cases hcode : e.code = c
  · exact iff_of_true (hcode ▸ active_raise_self l e) (.inr hcode)
  · rw [active_raise_of_ne hcode, or_iff_left hcode]

/-- The halt request in terms of the active codes (R163). -/
theorem haltRequest_iff (l : FaultList) : l.haltRequest = true ↔ ∃ c, l.active c = true ∧ c.isStop = true := by
  simp only [FaultList.haltRequest, ← List.any_append, List.any_eq_true, active_iff_held, FaultList.held]
  constructor
  · rintro ⟨x, hx, hstop⟩
    exact ⟨x.code, ⟨x, hx, rfl⟩, hstop⟩
  · rintro ⟨-, ⟨x, hx, rfl⟩, hstop⟩
    exact ⟨x, hx, hstop⟩

theorem haltRequest_raise (l : FaultList) (e : FaultEntry) :
    (l.raise e).haltRequest = true ↔ l.haltRequest = true ∨ e.code.isStop = true := by
  simp only [haltRequest_iff, active_raise_iff, or_and_right, exists_or, exists_eq_left']

end

/-! ### The bounds of list and overflow set -/

/-- Sixteen codes less the eight listed are left for the overflow set. -/
theorem overflow_length_le {s : State} (h : FaultListBounded s) : s.flt.overflow.length ≤ 8 := by
  obtain ⟨-, hnodup, hfull⟩ := h
  have htotal := length_le_of_nodup_codes hnodup
  rw [List.length_map, List.length_append] at htotal
  by_cases hempty : s.flt.overflow = []
  · simp [hempty]
  · have := hfull hempty
    omega

theorem faultListBounded_raise {s : State} (h : FaultListBounded s) (c : FaultCode) (detail : Byte) :
    FaultListBounded (s.raise c detail) := by
  obtain ⟨hlength, hnodup, hfull⟩ := h
  have hcodes := nodup_held_raise ⟨c, s.ptk.p, detail⟩ hnodup
  rw [FaultListBounded, State.raise, State.setFlt_flt]
  obtain ⟨-, heq⟩ | ⟨-, hroom, heq⟩ | ⟨-, height, heq⟩ := raise_cases s.flt ⟨c, s.ptk.p, detail⟩ <;>
    rw [heq] at hcodes ⊢
  case inl => exact ⟨hlength, hcodes, hfull⟩
  case inr.inl =>
    exact ⟨List.length_append.trans_le hroom, hcodes, fun hover => absurd (hfull hover) hroom.ne⟩
  case inr.inr => exact ⟨hlength, hcodes, fun _ => Nat.le_antisymm hlength height⟩

/-- Settles O52: each row of R161 is an equation of `FaultList.raise`; the bounds of list and set are kept, and the halt
request gains the code when it is of STOP class. -/
theorem faultRaised : Obligations.FaultRaised := by
  intro c detail s
  refine ⟨rfl, fun hactive => ?active, fun hnew hroom => raise_of_room hnew hroom, fun hnew hfull => ?full, fun hbounded => ?bounds, rfl, ?halt⟩
  case active => rw [State.raise, raise_of_active hactive]; rfl
  case full =>
    rw [State.raise, raise_of_full hnew hfull]
    exact ⟨rfl, insertFault_perm _ s.flt.overflow⟩
  case bounds =>
    have hkept := faultListBounded_raise hbounded c detail
    exact ⟨hkept, overflow_length_le hkept⟩
  case halt =>
    rw [← isStop_iff]
    exact haltRequest_raise s.flt ⟨c, s.ptk.p, detail⟩

end Sys2Proof.Machine
end

section
/-! What every command keeps, packaged once: a predicate that the operations of the model keep is kept by every command. An
operation that does not reach the blocks a predicate reads keeps it by the frame lemmas, and is then left out of the proof. -/

namespace Sys2Proof.Machine

/-! ### The operations -/

/-- A predicate is kept by the operations that a turret advance and a measurement are made of. -/
structure KeptByTurret (P : State → Prop) : Prop where
  raise : ∀ c d s, P s → P (s.raise c d) := by intros; simp_all
  sense : ∀ eye caps s, P s → P (senseTurret eye caps s) := by intros; simp_all [senseTurret]
  back : ∀ s, s.ptk.backlog < 3599 → P s → P (s.setPtk { s.ptk with
    turret := (s.ptk.turret + 3600 - 1) % 3600, backlog := s.ptk.backlog + 1 }) := by intros; simp_all
  behind : ∀ s, P s → P (s.setPtk { s.ptk with
    turret := (s.ptk.turret + 1) % 3600, backlog := s.ptk.backlog - 1 }) := by intros; simp_all
  forth : ∀ s, s.ptk.backlog = 0 → P s → P (s.setPtk { s.ptk with turret := (s.ptk.turret + 1) % 3600 }) := by
    intros; simp_all
  moving : ∀ s, P s → P (startMoving s) := by intros; simp_all
  track : ∀ s, P s → P (trackPitch s) := by intros; simp_all
  holds : ∀ s, P s → P (clearPitchHolds s) := by intros; simp_all
  purge : ∀ s, P s → P (purgeBehind s) := by intros; simp_all
  infeed : ∀ k s, P s → P (serveInfeed k s) := by intros; simp_all
  transitions : ∀ k s, P s → P (headTransitions k s) := by intros; simp_all
  leave : ∀ line s, line.Sublist s.ofl → P s → P (s.setOfl line) := by intros; simp_all
  passOn : ∀ j m s, P s → P (passOn j m s) := by intros; simp_all
  handOver : ∀ k j s, (s.head k).jar = some j → P s → P (joinOutfeed j (removeOverdue (vacate k s)))
  scu : ∀ u s, P s → P (s.setScu u) := by intros; simp_all

/-- A predicate is kept by the requests' effects (R150 to R158). -/
structure KeptByRequests (P : State → Prop) : Prop where
  respond : ∀ code tag st data s, P s → P (respond code tag st data s) := by intros; simp_all
  clear : ∀ n s, P s → P (s.setFlt (s.flt.clearByNumber n)) := by intros; simp_all
  cursors : ∀ read write s, P s → P (s.setRcs { s.rcs with readCursor := read, writeCursor := write }) := by
    intros; simp_all
  store : ∀ t i words s, writeRefusal s.rcs t = none → P s → P (storeTable t i words s) := by intros; simp_all
  commit : ∀ expected s, (commitCheck s.rcs expected).1 = .accepted → P s → P (s.setRcs (acceptCommit s.rcs)) := by
    intros; simp_all
  service : ∀ k v s, P s → P (s.setHead k { s.head k with pendingService := v }) := by intros; simp_all
  seed : ∀ v s, P s → P (s.setDsu { s.dsu with audit := auditSeed v }) := by intros; simp_all
  tallies : ∀ s, P s → P (s.setDsu { s.dsu with tallies := Vector.replicate 15 0 }) := by intros; simp_all
  warm : ∀ s, P s → P (warmReset s)

/-- A predicate is kept by every command but an encoder report and a sensor sample. -/
structure KeptByRest (P : State → Prop) : Prop extends KeptByRequests P where
  stop : ∀ s, P s → P (stopTurret s) := by intros; simp_all
  millisecond : ∀ ok s, P s → P ((s.setPins { s.pins with steamOk := ok }).setPtk (countMillisecond s.ptk)) := by
    intros; simp_all
  tick : ∀ s, P s → P (flushTick s) := by intros; simp_all
  syncSlot : ∀ s, P s → P (s.setSpu (s.spu.beginSlot 0)) := by intros; simp_all
  slotStart : ∀ k s, P s → P (startSlot k s) := by intros; simp_all [startSlot]
  slotArrival : ∀ k r s, s.spu.inSlot k = true → P s → P (takeSlot k (slotOutcome k r) (endSlot s)) := by
    intros; simp_all [endSlot]
  edge : ∀ u s, P s → P (s.setScu u) := by intros; simp_all
  receiver : ∀ r s, P s → P (setReceiver r s) := by intros; simp_all
  discard : ∀ c s, P s → P (noteDiscard c s) := by intros; simp_all
  pass : ∀ s, P s → P (notePassed s) := by intros; simp_all
  jarFrame : ∀ payload s, P s → P (jarFrameArrival payload s) := by intros; simp_all
  pitchFrame : ∀ payload s, P s → P (pitchFrameArrival payload s) := by intros; simp_all
  forward : ∀ f s, s.lif.passFifo.length < 12 → P s → P (forwardFrame f s) := by intros; simp_all
  completion : ∀ s, P s → P (runArbiter (s.setLif { s.lif with sending := none })) := by intros; simp_all
  holdAsserted : ∀ s, P s → P (s.setPins { s.pins with downstreamHold := true }) := by intros; simp_all
  holdReleased : ∀ s, P s → P (runArbiterIfIdle (s.setPins { s.pins with downstreamHold := false })) := by
    intros; simp_all
  cold : ∀ straps s, P s → P (coldReset straps s)

section
variable {P : State → Prop} {s : State}

/-! ### The turret and the measurement -/

theorem removeOverdue_keeps (hleave : ∀ line s, line.Sublist s.ofl → P s → P (s.setOfl line))
    (hpass : ∀ j m s, P s → P (passOn j m s)) (hs : P s) : P (removeOverdue s) :=
  List.foldlRecOn _ _ (hleave _ s List.filter_sublist hs) fun _ ht _ _ => hpass _ none _ ht

theorem makeRoom_keeps (hleave : ∀ line s, line.Sublist s.ofl → P s → P (s.setOfl line))
    (hpass : ∀ j m s, P s → P (passOn j m s)) (hs : P s) : P (makeRoom s) := by
  unfold makeRoom
  split
  next e rest hline =>
    split
    · exact hpass _ none _ (hleave rest s (hline ▸ List.sublist_cons_self e rest) hs)
    · exact hs
  next => exact hs

theorem KeptByTurret.exit (h : KeptByTurret P) (k : Fin 12) (hs : P s) : P (serveExit k s) := by
  have htransitions := h.transitions k s hs
  unfold serveExit
  dsimp only
  split
  next j hj => exact h.handOver k j _ hj htransitions
  next => exact removeOverdue_keeps h.leave h.passOn htransitions

theorem KeptByTurret.pitch (h : KeptByTurret P) (hs : P s) : P (pitchEvent s) := by
  have hholds := h.holds _ (h.track s hs)
  have hpurged : P (purgeIfSynced (clearPitchHolds (trackPitch s))) := by
    unfold purgeIfSynced
    split
    · exact h.purge _ hholds
    · exact hholds
  unfold pitchEvent
  exact h.exit _ (h.infeed _ _ hpurged)

theorem KeptByTurret.heads (h : KeptByTurret P) (hs : P s) : P (allTransitions s) :=
  List.foldlRecOn allHeads (fun t k => headTransitions k t) hs fun t ht k _ => h.transitions k t ht

theorem KeptByTurret.advance (h : KeptByTurret P) (hbacklog : s.ptk.backlog = 0) (hs : P s) : P (turretAdvance s) := by
  have hstart := h.moving _ (h.forth s hbacklog hs)
  unfold turretAdvance
  dsimp only
  split
  · exact h.heads (h.pitch hstart)
  · exact h.heads hstart

theorem KeptByTurret.report (h : KeptByTurret P) (d : Direction) (hs : P s) : P (encoderReport d s) := by
  cases d with
  | backward =>
    unfold encoderReport
    dsimp only
    split
    next hroom => exact h.back s hroom hs
    next => exact hs
  | forward =>
    unfold encoderReport
    dsimp only
    split
    next hfront => exact h.advance hfront hs
    next => exact h.behind s hs

theorem KeptByTurret.matching (h : KeptByTurret P) (samples : List Int) (hs : P s) : P (matchMeasurement samples s) := by
  unfold matchMeasurement
  split
  next => exact h.raise _ _ s hs
  next e rest hline =>
    split
    · exact h.raise _ _ s hs
    · exact h.passOn _ _ _ (h.leave rest s (hline ▸ List.sublist_cons_self e rest) hs)

theorem KeptByTurret.measurement (h : KeptByTurret P) (samples : List Int) (clamped : Nat) (hs : P s) :
    P (completeMeasurement samples clamped s) := by
  unfold completeMeasurement
  refine h.matching samples ?_
  split
  · exact h.raise _ _ s hs
  · exact hs

theorem KeptByTurret.sample (h : KeptByTurret P) (v : Int) (hs : P s) : P (takeSample v s) := by
  have hring := h.scu (writeRing (clampSample v) s.scu) s hs
  unfold takeSample windowSample
  dsimp only
  split
  · exact hring
  · exact h.scu _ _ hring
  · split
    · exact h.measurement _ _ (h.scu _ _ hring)
    · exact h.scu _ _ hring

/-! ### The requests -/

theorem KeptByRequests.request (h : KeptByRequests P) (r : Request) (hs : P s) : P (runRequest r s) := by
  cases r with
  | status tag => exact h.respond _ _ _ _ s hs
  | faults tag => exact h.respond _ _ _ _ s hs
  | clearFault tag code =>
    unfold runRequest requestClearFault
    dsimp only
    split
    · exact h.respond _ _ _ _ s hs
    · exact h.respond _ _ _ _ _ (h.clear _ s hs)
  | cursor tag which table index =>
    unfold runRequest requestCursor
    dsimp only
    split
    · exact h.respond _ _ _ _ s hs
    split
    · exact h.respond _ _ _ _ s hs
    · refine h.respond _ _ _ _ _ ?_
      split
      · exact h.cursors _ s.rcs.writeCursor s hs
      · exact h.cursors s.rcs.readCursor _ s hs
  | write tag count words =>
    unfold runRequest requestWrite
    dsimp only
    split
    · exact h.respond _ _ _ _ s hs
    split
    · exact h.respond _ _ _ _ s hs
    split
    · exact h.respond _ _ _ _ s hs
    next htaken => exact h.respond _ _ _ _ _ (h.cursors _ _ _ (h.store _ _ words s htaken hs))
  | read tag count =>
    unfold runRequest requestRead
    dsimp only
    split
    · exact h.respond _ _ _ _ s hs
    split
    · exact h.respond _ _ _ _ s hs
    · exact h.respond _ _ _ _ _ (h.cursors _ s.rcs.writeCursor s hs)
  | commit tag expected =>
    unfold runRequest requestCommit
    dsimp only
    refine h.respond _ _ _ _ _ ?_
    split
    next haccepted => exact h.commit expected s haccepted hs
    next => exact hs
  | headService tag head value =>
    unfold runRequest requestHeadService
    dsimp only
    split
    · exact h.respond _ _ _ _ s hs
    · exact h.respond _ _ _ _ _ (h.service _ _ s hs)
  | seedAudit tag value => exact h.respond _ _ _ _ _ (h.seed value s hs)
  | clearTallies tag => exact h.respond _ _ _ _ _ (h.tallies s hs)
  | resetStation tag => exact h.respond _ _ _ _ _ (h.warm s hs)
  | refused code tag st => exact h.respond _ _ _ _ s hs

/-! ### The receiver -/

/-- A frame to be forwarded that passes the checks has found room in the Pass FIFO (R138). -/
theorem room_of_passes {f : SealedFrame} {e : Bool} (h : discardCauseOf s f e = none)
    (hforwarded : toBeForwarded s.address f.frame = true) : s.lif.passFifo.length < 12 := by
  unfold discardCauseOf at h
  split at h
  · cases h
  split at h
  · cases h
  split at h
  · cases h
  next hroom =>
    have hfree : ¬s.lif.passFree = 0 := fun hfull => hroom ⟨hforwarded, hfull⟩
    simp only [Lif.passFree, Config.passCapacity] at hfree
    omega

theorem KeptByRest.frame (h : KeptByRest P) (f : SealedFrame) (e : Bool) (hs : P s) : P (frameComplete f e s) := by
  unfold frameComplete
  split
  next => exact h.discard _ s hs
  next hpasses =>
    have hpassed := h.pass s hs
    have hroom (hforwarded : toBeForwarded s.address f.frame = true) : (notePassed s).lif.passFifo.length < 12 :=
      room_of_passes hpasses hforwarded
    have haddress : (notePassed s).address = s.address := by simp
    unfold dispatch
    rw [haddress]
    split
    · exact h.jarFrame _ _ hpassed
    · exact h.request _ hpassed
    · exact hpassed
    next hact =>
      refine h.forward f _ ?_ (h.pitchFrame _ _ hpassed)
      simp only [pitchFrameArrival_frame]
      exact hroom (by simp [toBeForwarded, hact])
    next hact => exact h.forward f _ (hroom (by simp [toBeForwarded, hact])) hpassed

theorem KeptByRest.char (h : KeptByRest P) (c : LinkChar) (hs : P s) : P (receiveChar s c) := by
  unfold receiveChar
  split
  · exact hs
  split
  · split
    · exact h.receiver _ s hs
    · exact hs
  split
  · exact h.receiver _ _ (h.discard _ s hs)
  split
  · exact h.receiver _ s hs
  · exact h.discard _ _ (h.receiver _ s hs)
  · exact h.frame _ _ (h.receiver _ s hs)

/-! ### Every command -/

/-- Every command but an encoder report and a sensor sample keeps the predicate. -/
theorem KeptByRest.command (h : KeptByRest P) {c : Instr} {t : State}
    (hreport : ∀ d eye caps, c ≠ .encoderReport d eye caps) (hsample : ∀ x, c ≠ .sensorSampleArrival x) (hs : P s)
    (hexec : exec c s = .next t) : P t := by
  cases c <;> obtain rfl := Host.Outcome.next.inj hexec
  case encoderReport direction eye caps => exact absurd rfl (hreport direction eye caps)
  case sensorSampleArrival sample => exact absurd rfl (hsample sample)
  case standstillExpiry =>
    split
    · exact h.stop s hs
    · exact hs
  case flushMillisecondTick steamOk => exact h.tick _ (h.millisecond steamOk s hs)
  case headBusSyncSlot =>
    split
    · exact h.syncSlot s hs
    · exact hs
  case headSlotStart k =>
    split
    · exact h.slotStart k s hs
    · exact hs
  case headBusSlotArrival k reply =>
    split
    next hslot => exact h.slotArrival k reply s hslot hs
    next => exact hs
  case jarEyeEdge => exact h.edge _ s hs
  case frameArrival chars => exact List.foldlRecOn chars receiveChar hs fun t ht c _ => h.char c ht
  case characterArrival char => exact h.char char hs
  case transmitCompletion =>
    split
    · exact hs
    · exact h.completion s hs
  case downstreamHoldAsserted => exact h.holdAsserted s hs
  case downstreamHoldReleased => exact h.holdReleased s hs
  case coldReset straps => exact h.cold straps s hs
  case status tag => exact h.request (.status tag) hs
  case faults tag => exact h.request (.faults tag) hs
  case clearFault tag code => exact h.request (.clearFault tag code) hs
  case cursor tag which table index => exact h.request (.cursor tag which table index) hs
  case write tag count words => exact h.request (.write tag count words) hs
  case read tag count => exact h.request (.read tag count) hs
  case commit tag signature => exact h.request (.commit tag signature) hs
  case headService tag head value => exact h.request (.headService tag head value) hs
  case seedAudit tag value => exact h.request (.seedAudit tag value) hs
  case clearTallies tag => exact h.request (.clearTallies tag) hs
  case resetStation tag => exact h.request (.resetStation tag) hs
  case unknownRequest payload => exact h.request (parseRequest payload) hs

/-- What the operations of the turret, the measurement and the other commands keep, every command keeps. -/
theorem exec_keeps (hturret : KeptByTurret P) (hrest : KeptByRest P) {c : Instr} {t : State} (hs : P s)
    (hexec : exec c s = .next t) : P t := by
  by_cases hreport : ∃ d eye caps, c = .encoderReport d eye caps
  · obtain ⟨d, eye, caps, rfl⟩ := hreport
    obtain rfl := Host.Outcome.next.inj hexec
    exact hturret.report d (hturret.sense eye caps s hs)
  by_cases hsample : ∃ x, c = .sensorSampleArrival x
  · obtain ⟨x, rfl⟩ := hsample
    obtain rfl := Host.Outcome.next.inj hexec
    exact hturret.sample x.toInt hs
  · exact hrest.command (fun d eye caps h => hreport ⟨d, eye, caps, h⟩) (fun x h => hsample ⟨x, h⟩) hs hexec

end

end Sys2Proof.Machine
end

section
/-! The queues through every command: the order of the Infeed Queue (R18), the bound of the Outfeed Line (R106), the bounds of
the Link Interface and the service of its downstream port (R139, R141, R144, R145). -/

namespace Sys2Proof.Machine

open Sys2Proof.Claims

/-! ### The Infeed Queue (R18) -/

/-- A list of records is a queue against P: at most 24 in strictly increasing order of offset (R18). -/
def QueueAt (p : Word) (rs : List JarRecord) : Prop :=
  rs.length ≤ 24 ∧ rs.Pairwise (fun a b => recordOffset p a < recordOffset p b)

section
variable {p : Word} {rs : List JarRecord}

/-- Ordered records have the order against P strict exactly when no two are of one pitch. -/
theorem strict_of_ordered (hordered : rs.Pairwise (fun a b => recordOffset p a ≤ recordOffset p b))
    (hdistinct : rs.Pairwise (fun a b => a.pitch ≠ b.pitch)) :
    rs.Pairwise (fun a b => recordOffset p a < recordOffset p b) :=
  (hordered.and hdistinct).imp fun ⟨hle, hne⟩ => Nat.lt_of_le_of_ne hle fun heq => hne ((recordOffset_inj p _ _).1 heq)

theorem distinct_of_strict (h : rs.Pairwise (fun a b => recordOffset p a < recordOffset p b)) :
    rs.Pairwise (fun a b => a.pitch ≠ b.pitch) :=
  h.imp fun hlt heq => Nat.ne_of_lt hlt ((recordOffset_inj p _ _).2 heq)

theorem distinct_perm {rs' : List JarRecord} (hperm : rs'.Perm rs) (h : rs.Pairwise (fun a b => a.pitch ≠ b.pitch)) :
    rs'.Pairwise (fun a b => a.pitch ≠ b.pitch) :=
  (hperm.pairwise_iff fun hne => Ne.symm hne).2 h

/-- The order against a new P, whatever it is, is strict as well: no two records are of one pitch. -/
theorem queueAt_orderRecords (p' : Word) (h : QueueAt p rs) : QueueAt p' (orderRecords p' rs) :=
  ⟨(orderRecords_length p' rs).trans_le h.1,
    strict_of_ordered (orderRecords_pairwise p' rs) (distinct_perm (orderRecords_perm p' rs) (distinct_of_strict h.2))⟩

theorem QueueAt.sublist (h : QueueAt p rs) {rs' : List JarRecord} (hsub : rs'.Sublist rs) : QueueAt p rs' :=
  ⟨hsub.length_le.trans h.1, h.2.sublist hsub⟩

theorem insertRecord_pairwise (r : JarRecord) (h : rs.Pairwise (fun a b => recordOffset p a ≤ recordOffset p b)) :
    (insertRecord p r rs).Pairwise (fun a b => recordOffset p a ≤ recordOffset p b) := by
  have htotal : Std.Total (fun a b => recordOffset p a ≤ recordOffset p b) := ⟨fun a b => Nat.le_total _ _⟩
  have htrans : IsTrans JarRecord (fun a b => recordOffset p a ≤ recordOffset p b) := ⟨fun _ _ _ => Nat.le_trans⟩
  exact h.orderedInsert r rs

/-- A record of a pitch not queued goes to the place of its offset (R21). -/
theorem queueAt_insertRecord {r : JarRecord} (h : QueueAt p rs) (hnew : ∀ q ∈ rs, q.pitch ≠ r.pitch)
    (hroom : rs.length < 24) : QueueAt p (insertRecord p r rs) := by
  refine ⟨(insertRecord_length p r rs).trans_le hroom, strict_of_ordered (insertRecord_pairwise r (h.2.imp Nat.le_of_lt)) ?_⟩
  exact distinct_perm (insertRecord_perm p r rs)
    (List.pairwise_cons.2 ⟨fun q hq => (hnew q hq).symm, distinct_of_strict h.2⟩)

/-- A record put in the place of the one of its pitch has its offset (R20). -/
theorem queueAt_replaceRecord (r : JarRecord) (h : QueueAt p rs) : QueueAt p (replaceRecord r rs) := by
  have hoffset (q : JarRecord) : recordOffset p (if q.pitch = r.pitch then r else q) = recordOffset p q := by
    split
    next heq => exact (recordOffset_inj p r q).2 heq.symm
    next => rfl
  refine ⟨(replaceRecord_length r rs).trans_le h.1, List.pairwise_map.2 ?_⟩
  simpa only [hoffset] using h.2

end

section
variable {s : State}

theorem queueOrdered_setPitch (p : Word) (hs : QueueOrdered s) : QueueOrdered (setPitch p s) := queueAt_orderRecords p hs

theorem queueOrdered_purgeBehind (hs : QueueOrdered s) : QueueOrdered (purgeBehind s) := by
  rw [QueueOrdered, (purgeBehind_frame s).1, purgeBehind_ifq]
  exact QueueAt.sublist hs List.filter_sublist

theorem queueOrdered_serveInfeed (k : Fin 12) (hs : QueueOrdered s) : QueueOrdered (serveInfeed k s) := by
  rw [QueueOrdered, (serveInfeed_frame s k).1, serveInfeed_ifq]
  split
  · exact QueueAt.sublist hs (List.tail_sublist _)
  · exact hs

theorem queueOrdered_queueRecord (r : JarRecord) (hs : QueueOrdered s) : QueueOrdered (queueRecord r s) := by
  unfold queueRecord
  split
  next => exact queueAt_replaceRecord r hs
  next hnew =>
    split
    next hroom =>
      refine queueAt_insertRecord hs (fun q hq heq => hnew ?_) hroom
      exact List.any_eq_true.2 ⟨q, hq, beq_iff_eq.2 heq⟩
    next => exact hs

theorem queueOrdered_jarFrameArrival (payload : List Byte) (hs : QueueOrdered s) :
    QueueOrdered (jarFrameArrival payload s) := by
  unfold jarFrameArrival
  split
  next r _ =>
    have hqueued := queueOrdered_queueRecord r hs
    unfold recordArrival
    split
    · exact hqueued
    · dsimp only
      split
      · exact hs
      split
      · exact hqueued
      split <;> exact hs
  next => exact hs

theorem queueOrdered_pitchFrameArrival (payload : List Byte) (hs : QueueOrdered s) :
    QueueOrdered (pitchFrameArrival payload s) := by
  unfold pitchFrameArrival
  split
  next m1 m0 rest =>
    split
    · unfold takeMasterPitch
      dsimp only
      split
      · exact queueOrdered_purgeBehind (queueOrdered_setPitch _ hs)
      · split
        · exact hs
        · exact queueOrdered_setPitch _ hs
    · exact hs
  next => exact hs

end

theorem queueAt_turret : KeptByTurret (fun s => QueueAt s.ptk.p s.ifq) where
  moving s hs := by simpa [startMoving_ptk] using hs
  track s hs := queueOrdered_setPitch _ hs
  purge s hs := queueOrdered_purgeBehind hs
  infeed k s hs := queueOrdered_serveInfeed k hs
  handOver k j s _ hs := by simpa using hs

theorem queueAt_rest : KeptByRest (fun s => QueueAt s.ptk.p s.ifq) where
  millisecond ok s hs := hs
  store t i words s _ hs := by cases t <;> exact hs
  stop s hs := hs
  jarFrame payload s hs := queueOrdered_jarFrameArrival payload hs
  pitchFrame payload s hs := queueOrdered_pitchFrameArrival payload hs
  warm s _ := ⟨Nat.zero_le _, List.Pairwise.nil⟩
  cold straps s _ := ⟨Nat.zero_le _, List.Pairwise.nil⟩

/-! ### The Outfeed Line (R106, R107) -/

theorem passOn_ofl (j : Jar) (m : Option Int) (s : State) : (passOn j m s).ofl = s.ofl := by simp

theorem removeOverdue_ofl (s : State) : (removeOverdue s).ofl = s.ofl.filter (fun e => !overdue s.ptk.p e) :=
  foldl_keeps State.ofl (fun t (e : OutfeedEntry) => passOn e.jar none t) (fun t e => passOn_ofl e.jar none t) _ _

/-- A line of 20 gives up its oldest entry before a jar joins (R107). -/
theorem makeRoom_ofl (s : State) : (makeRoom s).ofl = if s.ofl.length < 20 then s.ofl else s.ofl.drop 1 := by
  unfold makeRoom
  split
  next e rest hline =>
    split
    next hfull => rw [if_neg (Nat.not_lt.2 hfull), passOn_ofl, hline]; rfl
    next hroom => rw [if_pos (Nat.lt_of_not_le hroom)]
  next hline => simp [hline]

theorem joinOutfeed_ofl (j : Jar) (s : State) : (joinOutfeed j s).ofl =
    (if s.ofl.length < 20 then s.ofl else s.ofl.drop 1) ++ [⟨j, s.ptk.p, s.ptk.p + s.configWord .outfeedDelay⟩] := by
  obtain ⟨-, hcfg, -⟩ := makeRoom_frame s
  simp [joinOutfeed, makeRoom_ofl, configWord_congr hcfg]

theorem outfeedBounded_joinOutfeed (j : Jar) {s : State} (hs : OutfeedBounded s) : OutfeedBounded (joinOutfeed j s) := by
  rw [OutfeedBounded, joinOutfeed_ofl, List.length_append, List.length_singleton]
  have hlength : s.ofl.length ≤ 20 := hs
  split
  · omega
  · rw [List.length_drop]; omega

theorem outfeedBounded_removeOverdue {s : State} (hs : OutfeedBounded s) : OutfeedBounded (removeOverdue s) := by
  rw [OutfeedBounded, removeOverdue_ofl]
  exact (List.length_filter_le _ _).trans hs

theorem outfeedBounded_turret : KeptByTurret (fun s => s.ofl.length ≤ 20) where
  leave line s hsub hs := hsub.length_le.trans hs
  handOver k j s _ hs :=
    outfeedBounded_joinOutfeed j (outfeedBounded_removeOverdue (by simpa only [OutfeedBounded, vacate_frame] using hs))

theorem outfeedBounded_rest : KeptByRest (fun s => s.ofl.length ≤ 20) where
  warm s _ := Nat.zero_le _
  cold straps s _ := Nat.zero_le _

/-! ### The downstream port (R141, R144, R145) -/

section
variable {s : State} {f : Frame} {g : SealedFrame} {rest : List Frame} {later : List SealedFrame}

theorem startOwn_of_cons (hown : s.lif.transmitQueue = f :: rest) : startOwn s = s.setLif { s.lif with
    transmitQueue := rest, sending := some (ownAsSent s.address s.flt.haltRequest f) } := by
  rw [startOwn, hown]

theorem startForwarded_of_cons (hpass : s.lif.passFifo = g :: later) : startForwarded s = s.setLif { s.lif with
    passFifo := later
    sending := some (forwardedAsSent s.address s.flt.haltRequest g)
    upstreamHold := holdAfterLeave (12 - later.length) s.lif.upstreamHold } := by
  rw [startForwarded, hpass]

theorem runArbiter_of_hold (hhold : s.pins.downstreamHold = true) : runArbiter s = s := if_pos hhold

theorem runArbiter_of_nothing (hown : s.lif.transmitQueue = []) (hpass : s.lif.passFifo = []) : runArbiter s = s := by
  simp [runArbiter, startForwarded, hown, hpass]

theorem runArbiter_of_own (hhold : s.pins.downstreamHold = false) (hown : s.lif.transmitQueue = f :: rest)
    (hchoice : prefersOwn s = true ∨ s.lif.passFifo = []) : runArbiter s = s.setLif { s.lif with
      transmitQueue := rest, sending := some (ownAsSent s.address s.flt.haltRequest f) } := by
  rw [← startOwn_of_cons hown]
  simp [runArbiter, hhold, hown, hchoice]

theorem runArbiter_of_forwarded (hhold : s.pins.downstreamHold = false) (hpass : s.lif.passFifo = g :: later)
    (hchoice : s.lif.transmitQueue = [] ∨ prefersOwn s = false) : runArbiter s = s.setLif { s.lif with
      passFifo := later
      sending := some (forwardedAsSent s.address s.flt.haltRequest g)
      upstreamHold := holdAfterLeave (12 - later.length) s.lif.upstreamHold } := by
  rw [← startForwarded_of_cons hpass]
  obtain hnone | hprefers := hchoice
  · simp [runArbiter, hhold, hnone]
  · simp [runArbiter, hhold, hprefers, hpass]

/-- Everything a run of the arbiter can do (R145). -/
theorem runArbiter_cases (s : State) :
    ((s.pins.downstreamHold = true ∨ s.lif.transmitQueue = [] ∧ s.lif.passFifo = []) ∧ runArbiter s = s) ∨
    (∃ f rest, s.lif.transmitQueue = f :: rest ∧ runArbiter s = s.setLif { s.lif with
      transmitQueue := rest, sending := some (ownAsSent s.address s.flt.haltRequest f) }) ∨
    ∃ g later, s.lif.passFifo = g :: later ∧ runArbiter s = s.setLif { s.lif with
      passFifo := later
      sending := some (forwardedAsSent s.address s.flt.haltRequest g)
      upstreamHold := holdAfterLeave (12 - later.length) s.lif.upstreamHold } := by
  cases hhold : s.pins.downstreamHold with
  | true => exact .inl ⟨.inl rfl, runArbiter_of_hold hhold⟩
  | false =>
  cases hown : s.lif.transmitQueue with
  | nil =>
    cases hpass : s.lif.passFifo with
    | nil => exact .inl ⟨.inr ⟨rfl, rfl⟩, runArbiter_of_nothing hown hpass⟩
    | cons g later => exact .inr (.inr ⟨g, later, rfl, runArbiter_of_forwarded hhold hpass (.inl hown)⟩)
  | cons f rest =>
    by_cases hchoice : prefersOwn s = true ∨ s.lif.passFifo = []
    · exact .inr (.inl ⟨f, rest, rfl, runArbiter_of_own hhold hown hchoice⟩)
    · rw [not_or, Bool.not_eq_true] at hchoice
      obtain ⟨g, later, hpass⟩ := List.exists_cons_of_ne_nil hchoice.2
      exact .inr (.inr ⟨g, later, hpass, runArbiter_of_forwarded hhold hpass (.inr hchoice.1)⟩)

end

/-! ### The bounds of the link and the service of its port -/

/-- The bounds of the Pass FIFO, the Transmit Queue and the discard window (R139, R141, R144). -/
def LifBounded (l : Lif) : Prop :=
  l.passFifo.length ≤ 12 ∧ l.transmitQueue.length ≤ 8 ∧ l.discardWindow.length ≤ 256 ∧ l.discardWindow.count true < 8

/-- No frame waits on an idle port with the downstream HOLD released (R145). -/
def LifServed (l : Lif) (hold : Bool) : Prop :=
  l.sending = none → hold = false → l.passFifo = [] ∧ l.transmitQueue = []

section
variable {s : State} {l : Lif} {hold : Bool}

/-- A run of the arbiter only takes a frame from a queue. -/
theorem lifBounded_runArbiter (hs : LifBounded s.lif) : LifBounded (runArbiter s).lif := by
  obtain ⟨hpass, hown, hwindow⟩ := hs
  obtain ⟨-, heq⟩ | ⟨f, rest, hqueue, heq⟩ | ⟨g, later, hfifo, heq⟩ := runArbiter_cases s <;> rw [heq]
  · exact ⟨hpass, hown, hwindow⟩
  · rw [hqueue] at hown
    exact ⟨hpass, Nat.le_of_succ_le hown, hwindow⟩
  · rw [hfifo] at hpass
    exact ⟨Nat.le_of_succ_le hpass, hown, hwindow⟩

/-- A run of the arbiter leaves the port served, whatever it finds. -/
theorem lifServed_runArbiter (s : State) : LifServed (runArbiter s).lif (runArbiter s).pins.downstreamHold := by
  obtain ⟨hnone, heq⟩ | ⟨f, rest, hqueue, heq⟩ | ⟨g, later, hfifo, heq⟩ := runArbiter_cases s <;> rw [heq]
  · intro _ hreleased
    obtain hheld | ⟨hown, hpass⟩ := hnone
    · simp [hheld] at hreleased
    · exact ⟨hpass, hown⟩
  · exact fun hidle => nomatch hidle
  · exact fun hidle => nomatch hidle

theorem lifBounded_runArbiterIfIdle (hs : LifBounded s.lif) : LifBounded (runArbiterIfIdle s).lif := by
  unfold runArbiterIfIdle
  split
  · exact lifBounded_runArbiter hs
  · exact hs

theorem lifServed_runArbiterIfIdle (s : State) :
    LifServed (runArbiterIfIdle s).lif (runArbiterIfIdle s).pins.downstreamHold := by
  unfold runArbiterIfIdle
  split
  next => exact lifServed_runArbiter s
  next hbusy => exact fun hidle => absurd hidle hbusy

/-- Both together: what the downstream port keeps. -/
def LinkSound (s : State) : Prop := LifBounded s.lif ∧ LifServed s.lif s.pins.downstreamHold

theorem linkSound_pushFrame (f : Frame) (hs : LinkSound s) : LinkSound (pushFrame f s) := by
  obtain ⟨hbounded, hserved⟩ := hs
  unfold pushFrame
  split
  next hroom =>
    refine ⟨lifBounded_runArbiterIfIdle ⟨hbounded.1, ?_, hbounded.2.2⟩, lifServed_runArbiterIfIdle _⟩
    simpa using hroom
  next => exact ⟨hbounded, hserved⟩

theorem linkSound_forwardFrame (f : SealedFrame) (hroom : s.lif.passFifo.length < 12) (hs : LinkSound s) :
    LinkSound (forwardFrame f s) := by
  obtain ⟨⟨-, hqueues⟩, -⟩ := hs
  refine ⟨lifBounded_runArbiterIfIdle ⟨?_, hqueues⟩, lifServed_runArbiterIfIdle _⟩
  simpa using hroom

/-- The two blocks that a predicate on the link reads. -/
theorem LinkSound.congr {t : State} (hs : LinkSound s) (hlif : t.lif = s.lif)
    (hpins : t.pins.downstreamHold = s.pins.downstreamHold) : LinkSound t := by
  rw [LinkSound, hlif, hpins]
  exact hs

theorem linkSound_passOn (j : Jar) (m : Option Int) (hs : LinkSound s) : LinkSound (passOn j m s) := by
  refine LinkSound.congr (s := completeJar j m s) ?_ (by simp [passOn]) (by simp [passOn])
  unfold completeJar pushJarFrame
  dsimp only
  split
  · exact linkSound_pushFrame _ (hs.congr (by simp) (by simp))
  · exact hs.congr (by simp) (by simp)

/-! ### The discard window (R139) -/

theorem windowAppend_length {w : List Bool} (h : w.length ≤ 256) (x : Bool) : (windowAppend w x).length ≤ 256 := by
  unfold windowAppend
  dsimp only
  split <;> simp_all

theorem count_windowAppend_le (w : List Bool) (x : Bool) : (windowAppend w x).count true ≤ (w ++ [x]).count true := by
  unfold windowAppend
  dsimp only
  split
  · exact (List.drop_sublist 1 _).count_le true
  · exact Nat.le_refl _

theorem linkSound_notePassed (hs : LinkSound s) : LinkSound (notePassed s) := by
  obtain ⟨⟨hpass, hown, hlength, hcount⟩, hserved⟩ := hs
  refine ⟨⟨hpass, hown, windowAppend_length hlength false, ?_⟩, hserved⟩
  refine (count_windowAppend_le s.lif.discardWindow false).trans_lt ?_
  simpa [List.count_append] using hcount

theorem linkSound_noteDiscard (c : DiscardCause) (hs : LinkSound s) : LinkSound (noteDiscard c s) := by
  obtain ⟨⟨hpass, hown, hlength, -⟩, hserved⟩ := hs
  unfold noteDiscard
  dsimp only
  split
  next => exact ⟨⟨hpass, hown, Nat.zero_le _, Nat.zero_lt_succ _⟩, hserved⟩
  next hfew => exact ⟨⟨hpass, hown, windowAppend_length hlength true, Nat.lt_of_not_le hfew⟩, hserved⟩

theorem linkSound_reset (hl : s.lif = Lif.reset) : LinkSound s := by
  rw [LinkSound, hl]
  exact ⟨⟨Nat.zero_le _, Nat.zero_le _, Nat.zero_le _, Nat.zero_lt_succ _⟩, fun _ _ => ⟨rfl, rfl⟩⟩

end

theorem linkSound_turret : KeptByTurret (fun s => LifBounded s.lif ∧ LifServed s.lif s.pins.downstreamHold) where
  passOn j m s hs := linkSound_passOn j m hs
  handOver k j s _ hs := by
    have hremoved := removeOverdue_keeps (P := LinkSound) (s := vacate k s) (fun _ _ _ ht => ht)
      (fun j m _ ht => linkSound_passOn j m ht) (LinkSound.congr hs (by simp) (by simp))
    refine LinkSound.congr (s := makeRoom (removeOverdue (vacate k s))) ?_ rfl rfl
    exact makeRoom_keeps (fun _ _ _ ht => ht) (fun j m _ ht => linkSound_passOn j m ht) hremoved

theorem linkSound_rest : KeptByRest (fun s => LifBounded s.lif ∧ LifServed s.lif s.pins.downstreamHold) where
  respond code tag st data s hs := linkSound_pushFrame _ hs
  receiver r s hs := hs
  discard c s hs := linkSound_noteDiscard c hs
  pass s hs := linkSound_notePassed hs
  forward f s hroom hs := linkSound_forwardFrame f hroom hs
  completion s hs := ⟨lifBounded_runArbiter hs.1, lifServed_runArbiter _⟩
  holdAsserted s hs := ⟨hs.1, fun _ h => nomatch h⟩
  holdReleased s hs := ⟨lifBounded_runArbiterIfIdle hs.1, lifServed_runArbiterIfIdle _⟩
  warm s _ := linkSound_reset rfl
  cold straps s _ := linkSound_reset rfl

/-- Settles O54: each of the three invariants is kept by the operations, so every command keeps it. -/
theorem queuesKept : Obligations.QueuesKept := fun _ _ _ hexec =>
  ⟨fun hs => exec_keeps queueAt_turret queueAt_rest hs hexec,
    fun hs => exec_keeps outfeedBounded_turret outfeedBounded_rest hs hexec,
    fun hs => exec_keeps linkSound_turret linkSound_rest hs hexec⟩

end Sys2Proof.Machine
end

section
/-! One head at one turret advance (R38): the points it passes as the rows of `pointsPassed`, and what they leave of the other
heads and of the Fault List (R41, R42). -/

namespace Sys2Proof.Machine

open Sys2Proof.Claims

/-! ### A head and what is seen of it -/

/-- The head holds the jar of the view, in its state, with its valve and its spindle. -/
structure Shows (s : State) (k : Fin 12) (v : View) : Prop where
  state : (s.head k).state = v.state
  jar : (s.head k).jar = some v.jar
  valve : s.valve k = v.valve
  spindle : s.spindle k = v.spindle

/-- What the rows of R38 read besides the view: the head's angle, the lead, the fields of the jar's recipe, the chute type and
the head's cap-present switch. -/
structure Stage where
  angle : Nat
  lead : Nat
  field : RecipeField → Nat
  chute : Nat
  switchOn : Bool

/-- The stage of a head for a jar, in a state. -/
def stageOf (s : State) (k : Fin 12) (j : Jar) : Stage :=
  ⟨s.angle k, s.ptk.lead, s.rcs.jarField j, (s.configWord .chuteType).toNat, s.pins.capSwitches.getLsbD k.val⟩

/-- A field of a jar's recipe depends on the jar's tag and on the recipe its record names alone. -/
theorem jarField_of_sameJar (r : Rcs) {j j' : Jar} (htag : j'.tag = j.tag) (hrecord : j'.record = j.record) :
    r.jarField j' = r.jarField j := by
  funext f
  simp only [Rcs.jarField, htag, hrecord]

/-- A view of the same jar further on: its tag, its tracking and its record are kept, and the head is EMPTY only if it
was. -/
structure SameJar (v w : View) : Prop where
  tag : w.jar.tag = v.jar.tag
  tracked : w.jar.tracked = v.jar.tracked
  record : w.jar.record = v.jar.record
  holds : w.state = .empty ↔ v.state = .empty

theorem SameJar.refl (v : View) : SameJar v v := ⟨rfl, rfl, rfl, Iff.rfl⟩

theorem SameJar.trans {u v w : View} (h : SameJar u v) (h' : SameJar v w) : SameJar u w :=
  ⟨h'.tag.trans h.tag, h'.tracked.trans h.tracked, h'.record.trans h.record, h'.holds.trans h.holds⟩

/-- A head shows a view on a stage. -/
structure ShowsOn (s : State) (k : Fin 12) (g : Stage) (v : View) : Prop extends Shows s k v where
  angle : s.angle k = g.angle
  lead : s.ptk.lead = g.lead
  field : s.rcs.jarField v.jar = g.field
  chute : (s.configWord .chuteType).toNat = g.chute
  switchOn : s.pins.capSwitches.getLsbD k.val = g.switchOn

/-- The stage stays while a jar stays on its head and four blocks are unchanged. -/
theorem ShowsOn.step {s t : State} {k : Fin 12} {g : Stage} {v w : View} (h : ShowsOn s k g v) (hsame : SameJar v w)
    (hptk : t.ptk = s.ptk) (hcfg : t.cfg = s.cfg) (hrcs : t.rcs = s.rcs) (hpins : t.pins = s.pins)
    (hshows : Shows t k w) : ShowsOn t k g w := by
  obtain ⟨-, hangle, hlead, hfield, hchute, hswitch⟩ := h
  refine ⟨hshows, (angle_congr hptk k).trans hangle, by rw [hptk, hlead], ?_, by rw [configWord_congr hcfg, hchute],
    by rw [hpins, hswitch]⟩
  rw [hrcs, jarField_of_sameJar s.rcs hsame.tag hsame.record, hfield]

/-! ### The rows, one by one -/

section
variable {s : State} {k : Fin 12} {g : Stage} {v : View}

theorem showsOn_openPoint (h : ShowsOn s k g v) :
    SameJar v (openRow g.angle g.lead g.field v) ∧ ShowsOn (openPoint k s) k g (openRow g.angle g.lead g.field v) := by
  obtain ⟨⟨hstate, hjar, hvalve, hspindle⟩, hangle, hlead, hfield, hchute, hswitch⟩ := id h
  have hsame : SameJar v (openRow g.angle g.lead g.field v) := by
    unfold openRow
    split <;> constructor <;> simp_all
  refine ⟨hsame, h.step hsame (by simp) (by simp) (by simp) (by simp) ?_⟩
  unfold openPoint openRow
  simp only [hjar, hstate, hfield, hangle, hlead]
  split
  · exact ⟨by simp, by simp, by simp, by simp [hspindle]⟩
  · exact ⟨hstate, hjar, hvalve, hspindle⟩

theorem zoneEndResult_eq (ft accrued : Nat) :
    zoneEndResult ft accrued = if (ft = 0 ∧ accrued = 0) ∨ accrued < ft then .under else .full := by
  unfold zoneEndResult
  by_cases hzone : ft = 0
  · by_cases hdry : accrued = 0 <;> simp [hzone, hdry, Nat.one_le_iff_ne_zero]
  · simp [hzone]

theorem showsOn_closePoint (h : ShowsOn s k g v) :
    SameJar v (closeRow g.angle g.lead g.field v) ∧ ShowsOn (closePoint k s) k g (closeRow g.angle g.lead g.field v) := by
  obtain ⟨⟨hstate, hjar, hvalve, hspindle⟩, hangle, hlead, hfield, hchute, hswitch⟩ := id h
  have hsame : SameJar v (closeRow g.angle g.lead g.field v) := by
    unfold closeRow
    split <;> constructor <;> simp_all
  refine ⟨hsame, h.step hsame (by simp) (by simp) (by simp) (by simp) ?_⟩
  unfold closePoint closeRow
  simp only [hjar, hstate, hfield, hangle, hlead, zoneEndResult_eq]
  split
  · exact ⟨by simp, by simp, by simp, by simp [hspindle]⟩
  · exact ⟨hstate, hjar, hvalve, hspindle⟩

theorem showsOn_applyPoint (h : ShowsOn s k g v) :
    SameJar v (applyRow g.angle g.field g.chute g.switchOn v) ∧
    ShowsOn (applyPoint k s) k g (applyRow g.angle g.field g.chute g.switchOn v) := by
  obtain ⟨⟨hstate, hjar, hvalve, hspindle⟩, hangle, hlead, hfield, hchute, hswitch⟩ := id h
  have hsame : SameJar v (applyRow g.angle g.field g.chute g.switchOn v) := by
    unfold applyRow
    split
    · split <;> constructor <;> simp_all
    · exact SameJar.refl v
  refine ⟨hsame, h.step hsame (by simp) (by simp) (by simp) (by simp) ?_⟩
  unfold applyPoint applyRow
  simp only [hjar, hstate, hfield, hangle, hchute, hswitch]
  split
  next =>
    by_cases hcap : g.field .capType ≠ 0 ∧ g.field .capType ≠ g.chute
    · rw [if_pos hcap, if_neg (by tauto)]
      exact ⟨by simp [settleHead], by simp [settleHead], by simp [settleHead, hvalve], by simp [settleHead, hspindle]⟩
    · rw [if_neg hcap]
      by_cases hon : g.switchOn = true
      · rw [if_pos hon, if_pos ⟨by tauto, hon⟩]
        exact ⟨by simp, by simp, by simp [hvalve], by simp [hspindle]⟩
      · rw [if_neg hon, if_neg (by tauto)]
        exact ⟨by simp [settleHead], by simp [settleHead], by simp [settleHead, hvalve], by simp [settleHead, hspindle]⟩
  next => exact ⟨hstate, hjar, hvalve, hspindle⟩

theorem showsOn_torqueStartPoint (h : ShowsOn s k g v) :
    SameJar v (torqueRow g.angle g.field v) ∧ ShowsOn (torqueStartPoint k s) k g (torqueRow g.angle g.field v) := by
  obtain ⟨⟨hstate, hjar, hvalve, hspindle⟩, hangle, -, hfield, -, -⟩ := id h
  have hsame : SameJar v (torqueRow g.angle g.field v) := by
    unfold torqueRow
    split <;> constructor <;> simp_all
  refine ⟨hsame, h.step hsame (by simp) (by simp) (by simp) (by simp) ?_⟩
  unfold torqueStartPoint torqueRow
  simp only [hjar, hstate, hfield, hangle]
  split
  · exact ⟨by simp, by simp, by simp [hvalve], by simp [hspindle]⟩
  · exact ⟨hstate, hjar, hvalve, hspindle⟩

theorem showsOn_torqueEndPoint (h : ShowsOn s k g v) :
    SameJar v (zoneRow g.angle g.field v) ∧ ShowsOn (torqueEndPoint k s) k g (zoneRow g.angle g.field v) := by
  obtain ⟨⟨hstate, hjar, hvalve, hspindle⟩, hangle, -, hfield, -, -⟩ := id h
  have hsame : SameJar v (zoneRow g.angle g.field v) := by
    unfold zoneRow
    split <;> constructor <;> simp_all
  refine ⟨hsame, h.step hsame (by simp) (by simp) (by simp) (by simp) ?_⟩
  unfold torqueEndPoint zoneRow
  simp only [hjar, hstate, hfield, hangle]
  split
  · exact ⟨by simp [settleHead], by simp [settleHead, hspindle], by simp [settleHead, hvalve],
      by simp [settleHead, hspindle]⟩
  · exact ⟨hstate, hjar, hvalve, hspindle⟩

/-- The rows of R38 on a stage. -/
def Stage.passed (g : Stage) (v : View) : View := pointsPassed g.angle g.lead g.field g.chute g.switchOn v

/-- The transitions of a head are the rows of R38 in their order. -/
theorem showsOn_headTransitions (h : ShowsOn s k g v) :
    SameJar v (g.passed v) ∧ ShowsOn (headTransitions k s) k g (g.passed v) := by
  obtain ⟨hsame1, hopen⟩ := showsOn_openPoint h
  obtain ⟨hsame2, hclose⟩ := showsOn_closePoint hopen
  obtain ⟨hsame3, happly⟩ := showsOn_applyPoint hclose
  obtain ⟨hsame4, htorque⟩ := showsOn_torqueStartPoint happly
  obtain ⟨hsame5, hzone⟩ := showsOn_torqueEndPoint htorque
  exact ⟨(((hsame1.trans hsame2).trans hsame3).trans hsame4).trans hsame5, hzone⟩

end

/-! ### What the points of a head leave -/

/-- Two states have the same context, valve and spindle of a head. -/
structure SameHead (s t : State) (k : Fin 12) : Prop where
  head : t.head k = s.head k
  valve : t.valve k = s.valve k
  spindle : t.spindle k = s.spindle k

theorem SameHead.refl (s : State) (k : Fin 12) : SameHead s s k := ⟨rfl, rfl, rfl⟩

theorem SameHead.trans {s t u : State} {k : Fin 12} (h : SameHead s t k) (h' : SameHead t u k) : SameHead s u k :=
  ⟨h'.head.trans h.head, h'.valve.trans h.valve, h'.spindle.trans h.spindle⟩

section
variable {s : State} {k l : Fin 12}

theorem sameHead_openPoint (hne : k ≠ l) (s : State) : SameHead s (openPoint k s) l := by
  unfold openPoint
  (repeat' split) <;> constructor <;> simp [hne]

theorem sameHead_closePoint (hne : k ≠ l) (s : State) : SameHead s (closePoint k s) l := by
  unfold closePoint
  (repeat' split) <;> constructor <;> simp [hne]

theorem sameHead_applyPoint (hne : k ≠ l) (s : State) : SameHead s (applyPoint k s) l := by
  unfold applyPoint settleHead
  dsimp only
  (repeat' split) <;> constructor <;> simp [hne]

theorem sameHead_torqueStartPoint (hne : k ≠ l) (s : State) : SameHead s (torqueStartPoint k s) l := by
  unfold torqueStartPoint
  (repeat' split) <;> constructor <;> simp [hne]

theorem sameHead_torqueEndPoint (hne : k ≠ l) (s : State) : SameHead s (torqueEndPoint k s) l := by
  unfold torqueEndPoint settleHead
  (repeat' split) <;> constructor <;> simp [hne]

/-- The points of one head leave every other. -/
theorem sameHead_headTransitions (hne : k ≠ l) (s : State) : SameHead s (headTransitions k s) l :=
  ((((sameHead_openPoint hne s).trans (sameHead_closePoint hne _)).trans (sameHead_applyPoint hne _)).trans
    (sameHead_torqueStartPoint hne _)).trans (sameHead_torqueEndPoint hne _)

/-- A head with no jar passes no point. -/
theorem headTransitions_of_none (hj : (s.head k).jar = none) : headTransitions k s = s := by
  simp only [headTransitions, openPoint, closePoint, applyPoint, torqueStartPoint, torqueEndPoint, hj]

/-- The points of a head leave its service and its pending change. -/
theorem headTransitions_service (k : Fin 12) (s : State) (l : Fin 12) :
    ((headTransitions k s).head l).service = (s.head l).service ∧
    ((headTransitions k s).head l).pendingService = (s.head l).pendingService := by
  by_cases hne : k = l
  · subst hne
    have hpoint {p : State → State} (hp : ∀ t, ((p t).head k).service = (t.head k).service ∧
        ((p t).head k).pendingService = (t.head k).pendingService) {t : State}
        (ht : (t.head k).service = (s.head k).service ∧ (t.head k).pendingService = (s.head k).pendingService) :
        ((p t).head k).service = (s.head k).service ∧ ((p t).head k).pendingService = (s.head k).pendingService :=
      ⟨(hp t).1.trans ht.1, (hp t).2.trans ht.2⟩
    have hopen := hpoint (p := openPoint k) (fun t => by unfold openPoint; (repeat' split) <;> simp) ⟨rfl, rfl⟩
    have hclose := hpoint (p := closePoint k) (fun t => by unfold closePoint; (repeat' split) <;> simp) hopen
    have happly := hpoint (p := applyPoint k)
      (fun t => by unfold applyPoint settleHead; dsimp only; (repeat' split) <;> simp) hclose
    have htorque := hpoint (p := torqueStartPoint k)
      (fun t => by unfold torqueStartPoint; (repeat' split) <;> simp) happly
    exact hpoint (p := torqueEndPoint k) (fun t => by unfold torqueEndPoint settleHead; (repeat' split) <;> simp) htorque
  · rw [(sameHead_headTransitions hne s).head]
    exact ⟨rfl, rfl⟩

/-! ### The transitions of all heads -/

/-- The heads before and behind one in their order. -/
theorem exists_split_allHeads (k : Fin 12) : ∃ before after, allHeads = before ++ k :: after ∧ k ∉ before ∧ k ∉ after := by
  obtain ⟨before, after, hsplit⟩ := List.append_of_mem (mem_allHeads k)
  have hnodup := allHeads_nodup
  rw [hsplit, List.nodup_middle, List.nodup_cons, List.mem_append, not_or] at hnodup
  exact ⟨before, after, hsplit, hnodup.1.1, hnodup.1.2⟩

/-- An operation on each head in turn, which leaves every other head the same, acts on a head once, on what it was. -/
theorem foldl_allHeads_once {Same : State → State → Prop} (op : Fin 12 → State → State) (k : Fin 12)
    (hrefl : ∀ t, Same t t) (htrans : ∀ t u v, Same t u → Same u v → Same t v)
    (hother : ∀ i t, i ≠ k → Same t (op i t)) (s : State) :
    ∃ t, Same s t ∧ Same (op k t) (allHeads.foldl (fun t i => op i t) s) := by
  have hrun (ks : List (Fin 12)) (hk : k ∉ ks) (t : State) : Same t (ks.foldl (fun t i => op i t) t) := by
    induction ks generalizing t with
    | nil => exact hrefl t
    | cons i ks ih =>
      rw [List.mem_cons, not_or] at hk
      exact htrans _ _ _ (hother i t (Ne.symm hk.1)) (ih hk.2 _)
  obtain ⟨before, after, hsplit, hbefore, hafter⟩ := exists_split_allHeads k
  rw [hsplit, List.foldl_append, List.foldl_cons]
  exact ⟨_, hrun before hbefore s, hrun after hafter _⟩

/-- What a head's points and a flush tick read besides the head is the same in two states. -/
structure SameStation (s t : State) : Prop where
  ptk : t.ptk = s.ptk
  cfg : t.cfg = s.cfg
  rcs : t.rcs = s.rcs
  pins : t.pins = s.pins

theorem SameStation.refl (s : State) : SameStation s s := ⟨rfl, rfl, rfl, rfl⟩

theorem SameStation.trans {s t u : State} (h : SameStation s t) (h' : SameStation t u) : SameStation s u :=
  ⟨h'.ptk.trans h.ptk, h'.cfg.trans h.cfg, h'.rcs.trans h.rcs, h'.pins.trans h.pins⟩

/-- Each head passes its points once, on what the advance had left of it. -/
theorem allTransitions_sameHead (k : Fin 12) (s : State) :
    ∃ t, SameHead s t k ∧ SameStation s t ∧ SameHead (headTransitions k t) (allTransitions s) k := by
  obtain ⟨t, ⟨hbefore, hstation⟩, hafter, -⟩ :=
    foldl_allHeads_once (Same := fun t u => SameHead t u k ∧ SameStation t u) headTransitions k
      (fun t => ⟨SameHead.refl t k, SameStation.refl t⟩) (fun _ _ _ h h' => ⟨h.1.trans h'.1, h.2.trans h'.2⟩)
      (fun i t hne => ⟨sameHead_headTransitions hne t, by constructor <;> simp⟩) s
  exact ⟨t, hbefore, hstation, hafter⟩

theorem Shows.congr {t : State} {v : View} (h : Shows s k v) (hsame : SameHead s t k) : Shows t k v :=
  ⟨by rw [hsame.head, h.state], by rw [hsame.head, h.jar], hsame.valve.trans h.valve, hsame.spindle.trans h.spindle⟩

theorem SameStation.showsOn {t : State} {v : View} (h : SameStation s t) (hshows : Shows t k v) :
    ShowsOn t k (stageOf s k v.jar) v :=
  ⟨hshows, angle_congr h.ptk k, by rw [h.ptk]; rfl, by rw [h.rcs]; rfl, by rw [configWord_congr h.cfg]; rfl,
    by rw [h.pins]; rfl⟩

/-- What the transitions of all heads leave of a head with a jar. -/
theorem shows_allTransitions {v : View} (h : Shows s k v) :
    Shows (allTransitions s) k ((stageOf s k v.jar).passed v) := by
  obtain ⟨t, hsame, hstation, hlast⟩ := allTransitions_sameHead k s
  exact (showsOn_headTransitions (hstation.showsOn (h.congr hsame))).2.toShows.congr hlast

/-- The transitions leave a head with no jar. -/
theorem allTransitions_of_none (hj : (s.head k).jar = none) : SameHead s (allTransitions s) k := by
  obtain ⟨t, hsame, -, hlast⟩ := allTransitions_sameHead k s
  rw [headTransitions_of_none (hsame.head ▸ hj)] at hlast
  exact hsame.trans hlast

theorem allTransitions_service (s : State) (l : Fin 12) :
    ((allTransitions s).head l).service = (s.head l).service ∧
    ((allTransitions s).head l).pendingService = (s.head l).pendingService :=
  ⟨foldl_keeps (fun t => (t.head l).service) _ (fun t k => (headTransitions_service k t l).1) allHeads s,
    foldl_keeps (fun t => (t.head l).pendingService) _ (fun t k => (headTransitions_service k t l).2) allHeads s⟩

end

end Sys2Proof.Machine
end

section
/-! The turret advance as a whole (R1 to R6, R38): the state its heads pass their points in, where infeed and exit stand at a
pitch event, and what the event does to every other head. -/

namespace Sys2Proof.Machine

open Sys2Proof.Claims

/-! ### States by their blocks -/

/-- Two states with the same blocks are the same. -/
theorem state_eq {s t : State} (hptk : t.ptk = s.ptk) (hcfg : t.cfg = s.cfg) (hifq : t.ifq = s.ifq)
    (hheads : t.heads = s.heads) (hvalves : t.valves = s.valves) (hspu : t.spu = s.spu) (hrcs : t.rcs = s.rcs)
    (hofl : t.ofl = s.ofl) (hscu : t.scu = s.scu) (hdsu : t.dsu = s.dsu) (hlif : t.lif = s.lif) (hflt : t.flt = s.flt)
    (haddress : t.address = s.address) (hpins : t.pins = s.pins) (hpending : t.pending = s.pending) : t = s := by
  cases s
  cases t
  simp_all

theorem spu_eq_of_cycle {u v : Spu} (hposition : v.position = u.position) (hended : v.slotEnded = u.slotEnded) :
    v = { u with heads := v.heads } := by
  cases u
  cases v
  simp_all

/-! ### The advance before its transitions -/

/-- The state in which the heads pass their points at a forward report (R1, R3, R38). -/
def beforeHeads (eye : Bool) (caps : BitVec 12) (s : State) : State :=
  if nextCount s % 300 = 0 then pitchEvent (beforePitch eye caps s) else beforePitch eye caps s

section
variable {eye : Bool} {caps : BitVec 12} {s : State}

theorem beforeHeads_of_pitchDue (h : nextCount s % 300 = 0) :
    beforeHeads eye caps s = pitchEvent (beforePitch eye caps s) := if_pos h

theorem beforeHeads_between (h : nextCount s % 300 ≠ 0) : beforeHeads eye caps s = beforePitch eye caps s := if_neg h

theorem beforePitch_ptk (eye : Bool) (caps : BitVec 12) (s : State) :
    (beforePitch eye caps s).ptk = { s.ptk with turret := nextCount s, motion := .moving, standstill := 0 } := by
  rw [beforePitch, startMoving_ptk]
  rfl

/-- The blocks that the count and the restart do not reach, and the inputs that came with the report. -/
@[simp] theorem beforePitch_frame (eye : Bool) (caps : BitVec 12) (s : State) :
    (beforePitch eye caps s).cfg = s.cfg ∧ (beforePitch eye caps s).ifq = s.ifq ∧
    (beforePitch eye caps s).heads = s.heads ∧ (beforePitch eye caps s).spu = s.spu ∧
    (beforePitch eye caps s).rcs = s.rcs ∧ (beforePitch eye caps s).ofl = s.ofl ∧
    (beforePitch eye caps s).scu = s.scu ∧ (beforePitch eye caps s).dsu = s.dsu ∧
    (beforePitch eye caps s).lif = s.lif ∧ (beforePitch eye caps s).flt = s.flt ∧
    (beforePitch eye caps s).address = s.address ∧
    (beforePitch eye caps s).pins = { s.pins with infeedEye := eye, capSwitches := caps } ∧
    (beforePitch eye caps s).pending = s.pending := by
  simp [beforePitch, senseTurret]

/-- A forward report at the front is a turret advance. -/
theorem exec_forward (h : AtFront s) :
    exec (.encoderReport .forward eye caps) s = .next (allTransitions (beforeHeads eye caps s)) := by
  by_cases hpitch : nextCount s % 300 = 0
  · rw [beforeHeads_of_pitchDue hpitch]
    exact exec_forward_pitchDue ⟨h, hpitch⟩
  · rw [beforeHeads_between hpitch]
    have hstart : startMoving ((senseTurret eye caps s).setPtk
        { (senseTurret eye caps s).ptk with turret := ((senseTurret eye caps s).ptk.turret + 1) % 3600 }) =
        beforePitch eye caps s := by
      rw [beforePitch, ← succ_mod_eq_nextCount s h.1]
      rfl
    have hcount : ¬(beforePitch eye caps s).ptk.turret % 300 = 0 := by rw [beforePitch_ptk]; exact hpitch
    have hadvance : turretAdvance (senseTurret eye caps s) = allTransitions (beforePitch eye caps s) := by
      simp only [turretAdvance, Config.countsPerRevolution, Config.countsPerPitch, hstart, if_neg hcount]
    rw [← hadvance, ← encoderReport_forward_front (s := senseTurret eye caps s) h.2]
    rfl

/-- What an advance has of the Pitch Tracker before and after its transitions: what it counts and, at a pitch event, P, the
speed and the lead. -/
theorem beforeHeads_ptk (eye : Bool) (caps : BitVec 12) (s : State) : (beforeHeads eye caps s).ptk =
    if nextCount s % 300 = 0 then (beforePitch eye caps s).ptk.pitched else (beforePitch eye caps s).ptk := by
  unfold beforeHeads
  split
  · exact pitchEvent_ptk _
  · rfl

theorem beforeHeads_counts (eye : Bool) (caps : BitVec 12) (s : State) :
    (beforeHeads eye caps s).ptk.turret = nextCount s ∧ (beforeHeads eye caps s).ptk.backlog = s.ptk.backlog := by
  rw [beforeHeads_ptk, beforePitch_ptk]
  split <;> exact ⟨rfl, rfl⟩

/-! ### Angles (R2) -/

theorem nextCount_lt_of_turret (h : s.ptk.turret < 3600) : nextCount s < 3600 := by
  unfold nextCount
  split <;> omega

theorem nextCount_lt (h : AtFront s) : nextCount s < 3600 := nextCount_lt_of_turret h.1

theorem angle_lt (s : State) (k : Fin 12) : s.angle k < 3600 := Nat.mod_lt _ (by decide)

theorem angle_atFront (h : AtFront s) (k : Fin 12) : s.angle k = (s.ptk.turret + (3600 - 300 * k.val)) % 3600 := by
  rw [angle_eq, highWater_of_backlog_zero h.2 h.1]

/-- An advance moves every head by one count. -/
theorem beforeHeads_angle (h : AtFront s) (k : Fin 12) :
    (beforeHeads eye caps s).angle k = (nextCount s + (3600 - 300 * k.val)) % 3600 := by
  obtain ⟨hturret, hbacklog⟩ := beforeHeads_counts eye caps s
  have hfront : AtFront (beforeHeads eye caps s) := ⟨hturret ▸ nextCount_lt h, hbacklog.trans h.2⟩
  rw [angle_atFront hfront, hturret]

theorem beforeHeads_angle_succ (h : AtFront s) (k : Fin 12) : (beforeHeads eye caps s).angle k = (s.angle k + 1) % 3600 := by
  rw [beforeHeads_angle h, angle_atFront h, ← succ_mod_eq_nextCount s h.1]
  omega

/-- The head at the infeed at the pitch event that an advance makes (R2). -/
def infeedAt (s : State) : Fin 12 := Fin.ofNat 12 (nextCount s / 300)

/-- The infeed stands where a head completes its revolution. -/
theorem angle_eq_infeed_iff (h : PitchDue s) (k : Fin 12) : s.angle k = 3599 ↔ k = infeedAt s := by
  obtain ⟨hfront, hpitch⟩ := h
  have hlt := nextCount_lt hfront
  rw [angle_atFront hfront, Fin.ext_iff]
  simp only [infeedAt, Fin.val_ofNat]
  unfold nextCount at hpitch hlt ⊢
  have := hfront.1
  have := k.isLt
  split at hpitch <;> simp_all <;> omega

/-- The exit stands two heads on from the infeed. -/
theorem angle_eq_exit_iff (h : PitchDue s) (k : Fin 12) : s.angle k = 2999 ↔ k = infeedAt s + 2 := by
  obtain ⟨hfront, hpitch⟩ := h
  have hlt := nextCount_lt hfront
  rw [angle_atFront hfront, Fin.ext_iff, Fin.val_add]
  simp only [infeedAt, Fin.val_ofNat]
  unfold nextCount at hpitch hlt ⊢
  have := hfront.1
  have := k.isLt
  split at hpitch <;> simp_all <;> omega

end

/-! ### The parts of a pitch event -/

/-- The state in which the infeed and the exit are served at a pitch event (R3, R26, R80). -/
def readyToServe (eye : Bool) (caps : BitVec 12) (s : State) : State := purgeIfSynced (repitched (beforePitch eye caps s))

theorem repitched_ptk (s : State) : (repitched s).ptk = s.ptk.pitched := by
  simp [repitched, trackPitch, setPitch, Ptk.pitched]

theorem readyToServe_ptk (eye : Bool) (caps : BitVec 12) (s : State) :
    (readyToServe eye caps s).ptk = (beforePitch eye caps s).ptk.pitched := by
  rw [readyToServe, (purgeIfSynced_frame _).1, repitched_ptk]

/-- A pitch event serves the infeed and then the exit. -/
theorem beforeHeads_pitch {eye : Bool} {caps : BitVec 12} {s : State} (h : nextCount s % 300 = 0) :
    beforeHeads eye caps s =
      serveExit (infeedAt s + 2) (serveInfeed (infeedAt s) (readyToServe eye caps s)) := by
  have hinfeed : infeedHead (readyToServe eye caps s) = infeedAt s := by
    rw [infeedHead, readyToServe_ptk, beforePitch_ptk]
    rfl
  rw [beforeHeads_of_pitchDue h, ← hinfeed]
  rfl

/-- The blocks that the Pitch Tracker, the release holds and the stale removal do not reach. -/
theorem readyToServe_frame (eye : Bool) (caps : BitVec 12) (s : State) :
    (readyToServe eye caps s).cfg = s.cfg ∧ (readyToServe eye caps s).heads = s.heads ∧
    (readyToServe eye caps s).valves = (beforePitch eye caps s).valves ∧ (readyToServe eye caps s).rcs = s.rcs ∧
    (readyToServe eye caps s).ofl = s.ofl ∧ (readyToServe eye caps s).scu = s.scu ∧
    (readyToServe eye caps s).dsu = s.dsu ∧ (readyToServe eye caps s).lif = s.lif ∧
    (readyToServe eye caps s).address = s.address ∧
    (readyToServe eye caps s).pins = { s.pins with infeedEye := eye, capSwitches := caps } ∧
    (readyToServe eye caps s).pending = s.pending := by
  simp [readyToServe, repitched]

/-- A spindle as the pitch event's release leaves it (R80). -/
def released (v : Spindle) : Spindle := { v with releaseHold := clearHold v.releaseHold }

theorem clearPitchHolds_spindle (s : State) (k : Fin 12) : (clearPitchHolds s).spindle k = released (s.spindle k) := by
  obtain ⟨t, hbefore, hafter⟩ := foldl_allHeads_once (Same := fun t u => u.spindle k = t.spindle k)
    (fun i t => t.setSpindle i { t.spindle i with releaseHold := clearHold (t.spindle i).releaseHold }) k
    (fun _ => rfl) (fun _ _ _ h h' => h'.trans h) (fun i t hne => spindle_setSpindle_ne t _ hne) s
  rw [clearPitchHolds, hafter, spindle_setSpindle_same, hbefore]
  rfl

theorem readyToServe_spindle (eye : Bool) (caps : BitVec 12) (s : State) (k : Fin 12) :
    (readyToServe eye caps s).spindle k = released (s.spindle k) := by
  have hbefore : (trackPitch (beforePitch eye caps s)).spu = s.spu := by simp
  rw [readyToServe, spindle_congr (t := purgeIfSynced _) (s := repitched (beforePitch eye caps s)) (by simp),
    repitched, clearPitchHolds_spindle, spindle_congr hbefore]

/-! ### Infeed and exit leave the other heads -/

section
variable {s : State} {k l : Fin 12}

theorem sameHead_of_frame {t : State} (hheads : t.heads = s.heads) (hvalves : t.valves = s.valves) (hspu : t.spu = s.spu)
    (l : Fin 12) : SameHead s t l :=
  ⟨head_congr hheads l, valve_congr hvalves l, spindle_congr hspu l⟩

theorem sameHead_beginLoad (hne : k ≠ l) (s : State) : SameHead s (beginLoad k s) l := by
  constructor <;> simp [beginLoad, hne]

theorem sameHead_setHead (hne : k ≠ l) (h : Head) (s : State) : SameHead s (s.setHead k h) l := by
  constructor <;> simp [hne]

theorem sameHead_loadTracked (hne : k ≠ l) (r : JarRecord) (s : State) : SameHead s (loadTracked k r s) l := by
  refine (sameHead_beginLoad hne s).trans ?_
  unfold loadTracked
  dsimp only
  (repeat' split) <;> constructor <;> simp [hne]

theorem sameHead_setIfq (s : State) (q : List JarRecord) (l : Fin 12) : SameHead s (s.setIfq q) l := ⟨rfl, rfl, rfl⟩

theorem sameHead_raise (s : State) (c : FaultCode) (d : Byte) (l : Fin 12) : SameHead s (s.raise c d) l := ⟨rfl, rfl, rfl⟩

theorem sameHead_loadNothing (hne : k ≠ l) (s : State) : SameHead s (loadNothing k s) l :=
  (sameHead_beginLoad hne s).trans (sameHead_setHead hne _ _)

theorem sameHead_loadUntracked (hne : k ≠ l) (r : JarRecord) (s : State) : SameHead s (loadUntracked k r s) l :=
  (sameHead_beginLoad hne s).trans (sameHead_setHead hne _ _)

theorem sameHead_serveInfeed (hne : k ≠ l) (s : State) : SameHead s (serveInfeed k s) l := by
  unfold serveInfeed
  split
  · exact (sameHead_setIfq s _ l).trans (sameHead_loadTracked hne _ _)
  · exact ((sameHead_setIfq s _ l).trans (sameHead_raise _ _ _ l)).trans (sameHead_loadNothing hne _)
  · split
    · exact (sameHead_raise s _ _ l).trans (sameHead_loadUntracked hne _ _)
    · exact sameHead_loadUntracked hne _ s
  · exact sameHead_loadNothing hne s

theorem sameHead_vacate (hne : k ≠ l) (s : State) : SameHead s (vacate k s) l := by
  constructor <;> simp [vacate, hne]

theorem sameHead_serveExit (hne : k ≠ l) (s : State) : SameHead s (serveExit k s) l := by
  refine (sameHead_headTransitions hne s).trans ?_
  unfold serveExit
  dsimp only
  split
  · exact (sameHead_vacate hne _).trans (sameHead_of_frame (by simp) (by simp) (by simp) l)
  · exact sameHead_of_frame (by simp) (by simp) (by simp) l

end

/-! ### The inputs an advance finds -/

theorem beforeHeads_inputs (eye : Bool) (caps : BitVec 12) (s : State) :
    (beforeHeads eye caps s).cfg = s.cfg ∧
    (beforeHeads eye caps s).pins = { s.pins with infeedEye := eye, capSwitches := caps } := by
  unfold beforeHeads
  split <;> simp

/-! ### The head at neither -/

section
variable {eye : Bool} {caps : BitVec 12} {s : State} {k : Fin 12}

/-- A head reaching neither infeed nor exit is served by neither. -/
theorem sameHead_beforeHeads_pitch (h : PitchDue s) (hinfeed : s.angle k ≠ 3599) (hexit : s.angle k ≠ 2999) :
    SameHead (readyToServe eye caps s) (beforeHeads eye caps s) k := by
  rw [beforeHeads_pitch h.2]
  have hne : infeedAt s ≠ k := fun heq => hinfeed ((angle_eq_infeed_iff h k).2 heq.symm)
  have hne' : infeedAt s + 2 ≠ k := fun heq => hexit ((angle_eq_exit_iff h k).2 heq.symm)
  exact (sameHead_serveInfeed hne _).trans (sameHead_serveExit hne' _)

/-- R63: at an advance from STOPPED the valve of a FLUSHING head below its target reopens. -/
theorem beforePitch_valve (eye : Bool) (caps : BitVec 12) (s : State) (k : Fin 12) :
    (beforePitch eye caps s).valve k = true ↔
      s.valve k = true ∨ s.ptk.motion = .stopped ∧ FlushesBelowTarget s.rcs (s.head k) := by
  unfold beforePitch startMoving
  dsimp only
  split
  next hstopped =>
    have hmotion : s.ptk.motion = .stopped := hstopped
    rw [reopenValves_valve]
    simp only [hmotion, true_and]
    rfl
  next hmoving =>
    have hmotion : ¬s.ptk.motion = .stopped := hmoving
    simp only [hmotion, false_and, or_false]
    rfl

theorem released_eq_spindleAt (h : nextCount s % 300 = 0) (k : Fin 12) : released (s.spindle k) = spindleAt s k := by
  unfold released spindleAt
  cases hhold : (s.spindle k).releaseHold <;> simp [h, clearHold] <;> cases hs : s.spindle k <;> simp_all

/-- A head reaching neither infeed nor exit as its points find it. -/
theorem beforeHeads_head (h : AtFront s) (hinfeed : s.angle k ≠ 3599) (hexit : s.angle k ≠ 2999) :
    (beforeHeads eye caps s).head k = s.head k ∧
    (beforeHeads eye caps s).valve k = (beforePitch eye caps s).valve k ∧
    (beforeHeads eye caps s).spindle k = spindleAt s k := by
  by_cases hpitch : nextCount s % 300 = 0
  · obtain ⟨hhead, hvalve, hspindle⟩ := sameHead_beforeHeads_pitch (eye := eye) (caps := caps) ⟨h, hpitch⟩ hinfeed hexit
    obtain ⟨-, hheads, hvalves, -⟩ := readyToServe_frame eye caps s
    rw [hhead, hvalve, hspindle, readyToServe_spindle, released_eq_spindleAt hpitch]
    exact ⟨head_congr hheads k, valve_congr hvalves k, rfl⟩
  · obtain ⟨-, -, hheads, hspu, -⟩ := beforePitch_frame eye caps s
    rw [beforeHeads_between hpitch]
    refine ⟨head_congr hheads k, rfl, ?_⟩
    rw [spindle_congr hspu, spindleAt, if_neg fun hc => hpitch hc.1]

/-- A head with a jar as its points find it is the view the statement gives (R63, R80). -/
theorem shows_beforeHeads (h : AtFront s) (hinfeed : s.angle k ≠ 3599) (hexit : s.angle k ≠ 2999) {j : Jar}
    (hj : (s.head k).jar = some j) : Shows (beforeHeads eye caps s) k (viewAt s k j) := by
  obtain ⟨hhead, hvalve, hspindle⟩ := beforeHeads_head (eye := eye) (caps := caps) h hinfeed hexit
  refine ⟨by rw [hhead]; rfl, hhead ▸ hj, ?_, hspindle⟩
  rw [hvalve, Bool.eq_iff_iff, beforePitch_valve, flushesBelowTarget_iff hj]
  simp only [viewAt]
  split
  next hreopens => simp [hreopens]
  next hstays => exact or_iff_left hstays

/-- A head with a view has the context that the view gives. -/
theorem Shows.head_eq {t : State} {v : View} (h : Shows t k v) (hservice : (t.head k).service = (s.head k).service)
    (hpending : (t.head k).pendingService = (s.head k).pendingService) :
    t.head k = { s.head k with state := v.state, jar := some v.jar } := by
  obtain ⟨hstate, hjar, -, -⟩ := h
  cases hhead : t.head k
  simp_all

/-- The rows of R38 on a stage given by its parts. -/
theorem Stage.passed_mk (angle lead : Nat) (field : RecipeField → Nat) (chute : Nat) (switchOn : Bool) (v : View) :
    Stage.passed ⟨angle, lead, field, chute, switchOn⟩ v = pointsPassed angle lead field chute switchOn v := rfl

/-- Settles O7: a head that is served neither at the infeed nor at the exit passes its points on what the advance has left
of it, and a head with no jar passes none. -/
theorem headsPassTheirPoints : Obligations.HeadsPassTheirPoints := by
  intro eye caps s k hfront hexit hinfeed
  have hangle : (beforeHeads eye caps s).angle k = s.angle k + 1 := by
    rw [beforeHeads_angle_succ hfront]
    have := angle_lt s k
    omega
  have hangle' : (allTransitions (beforeHeads eye caps s)).angle k = s.angle k + 1 :=
    (angle_congr (by simp) k).trans hangle
  refine ⟨_, exec_forward hfront, hangle', fun j hj => ?jar, fun hnone => ?none⟩
  case jar =>
    have hshows := shows_beforeHeads (eye := eye) (caps := caps) hfront hinfeed hexit hj
    have hstage : stageOf (beforeHeads eye caps s) k j = ⟨s.angle k + 1,
        (allTransitions (beforeHeads eye caps s)).ptk.lead, (allTransitions (beforeHeads eye caps s)).rcs.jarField j,
        (s.configWord .chuteType).toNat, caps.getLsbD k.val⟩ := by
      obtain ⟨hcfg, hpins⟩ := beforeHeads_inputs eye caps s
      obtain ⟨hptk, -, -, hrcs, -⟩ := allTransitions_frame (beforeHeads eye caps s)
      rw [stageOf, hangle, configWord_congr hcfg, hpins, hptk, hrcs]
    have hpassed : Shows (allTransitions (beforeHeads eye caps s)) k (pointsPassed (s.angle k + 1)
        (allTransitions (beforeHeads eye caps s)).ptk.lead ((allTransitions (beforeHeads eye caps s)).rcs.jarField j)
        (s.configWord .chuteType).toNat (caps.getLsbD k.val) (viewAt s k j)) := by
      have hshown := shows_allTransitions hshows
      have hjar : (viewAt s k j).jar = j := rfl
      rwa [hjar, hstage, Stage.passed_mk] at hshown
    obtain ⟨hservice, hpending⟩ := allTransitions_service (beforeHeads eye caps s) k
    rw [(beforeHeads_head hfront hinfeed hexit).1] at hservice hpending
    exact ⟨hpassed.head_eq hservice hpending, hpassed.valve, hpassed.spindle⟩
  case none =>
    obtain ⟨hhead, hvalve, hspindle⟩ := beforeHeads_head (eye := eye) (caps := caps) hfront hinfeed hexit
    obtain ⟨hhead', hvalve', hspindle'⟩ := allTransitions_of_none (s := beforeHeads eye caps s) (by rw [hhead, hnone])
    refine ⟨hhead'.trans hhead, ?_, hspindle'.trans hspindle⟩
    rw [hvalve', hvalve, Bool.eq_iff_iff, beforePitch_valve]
    simp [FlushesBelowTarget, hnone]

end

/-! ### What a turret advance keeps of each block -/

/-- A predicate that reads neither the Outfeed Line nor what the exit removes is kept by the hand-over of a jar. -/
theorem handOver_keeps {P : State → Prop} {s : State} (k : Fin 12) (j : Jar) (hofl : ∀ line t, P t → P (t.setOfl line))
    (hpass : ∀ j m t, P t → P (passOn j m t)) (hs : P (vacate k s)) : P (joinOutfeed j (removeOverdue (vacate k s))) := by
  have hremoved : P (removeOverdue (vacate k s)) := removeOverdue_keeps (fun line _ _ => hofl line _) hpass hs
  exact hofl _ _ (makeRoom_keeps (fun line _ _ => hofl line _) hpass hremoved)

/-- The slot of the head bus cycle in progress, and whether it has ended (R68). -/
def Spu.slot (u : Spu) : Nat × Bool := (u.position, u.slotEnded)

section

@[simp] theorem slot_setSpindle (s : State) (k : Fin 12) (v : Spindle) : (s.setSpindle k v).spu.slot = s.spu.slot := rfl

@[simp] theorem slot_torqueStartPoint (k : Fin 12) (s : State) : (torqueStartPoint k s).spu.slot = s.spu.slot := by
  unfold torqueStartPoint
  (repeat' split) <;> simp

@[simp] theorem slot_headTransitions (k : Fin 12) (s : State) : (headTransitions k s).spu.slot = s.spu.slot := by
  simp [headTransitions]

@[simp] theorem slot_clearPitchHolds (s : State) : (clearPitchHolds s).spu.slot = s.spu.slot := by
  unfold clearPitchHolds
  exact foldl_keeps (fun t => t.spu.slot) _ (fun t k => slot_setSpindle t k _) allHeads s

theorem loadTracked_spu (k : Fin 12) (r : JarRecord) (s : State) : (loadTracked k r s).spu = (beginLoad k s).spu := by
  unfold loadTracked
  dsimp only
  (repeat' split) <;> simp

theorem loadTracked_rcs (k : Fin 12) (r : JarRecord) (s : State) :
    (loadTracked k r s).rcs = s.rcs.countUp s.rcs.live := by
  unfold loadTracked
  dsimp only
  (repeat' split) <;> simp

theorem serveInfeed_spu (k : Fin 12) (s : State) : (serveInfeed k s).spu = (beginLoad k s).spu := by
  unfold serveInfeed
  split
  · rw [loadTracked_spu]
    rfl
  · rfl
  · split <;> rfl
  · rfl

/-- The infeed counts a jar in flight only where it loads a tracked one (R27, R92). -/
theorem serveInfeed_rcs (k : Fin 12) (s : State) : (serveInfeed k s).rcs =
    if (oldestLevel s).isSome ∧ s.pins.infeedEye = true then s.rcs.countUp s.rcs.live else s.rcs := by
  unfold serveInfeed
  split <;> simp_all [loadTracked_rcs]
  split <;> simp

@[simp] theorem slot_beginLoad (k : Fin 12) (s : State) : (beginLoad k s).spu.slot = s.spu.slot := by simp [beginLoad]

@[simp] theorem slot_serveInfeed (k : Fin 12) (s : State) : (serveInfeed k s).spu.slot = s.spu.slot := by
  rw [serveInfeed_spu, slot_beginLoad]

end

theorem slot_turret (c : Nat × Bool) : KeptByTurret (fun s => s.spu.slot = c) where
  handOver k j s _ hs := by simpa [vacate] using hs

@[simp] theorem setBank_readCursor (r : Rcs) (i : BankId) (x : Bank) : (r.setBank i x).readCursor = r.readCursor := by
  cases i <;> rfl

@[simp] theorem setBank_writeCursor (r : Rcs) (i : BankId) (x : Bank) : (r.setBank i x).writeCursor = r.writeCursor := by
  cases i <;> rfl

theorem passOn_cursors (j : Jar) (m : Option Int) (s : State) :
    (passOn j m s).rcs.live = s.rcs.live ∧ (passOn j m s).rcs.readCursor = s.rcs.readCursor ∧
    (passOn j m s).rcs.writeCursor = s.rcs.writeCursor := by
  have hrcs : (completeJar j m s).rcs = s.rcs := by simp
  have hdown (r : Rcs) (i : BankId) : (r.countDown i).live = r.live ∧ (r.countDown i).readCursor = r.readCursor ∧
      (r.countDown i).writeCursor = r.writeCursor := by
    obtain ⟨-, -, heq⟩ | ⟨-, heq⟩ := countDown_cases r i <;> rw [heq]
    · obtain ⟨hlive, -, -, -, -, hread, hwrite⟩ := refill_eq (r.setBank i ⟨(r.bank i).words, (r.bank i).inFlight - 1⟩)
      simp [hlive, hread, hwrite]
    · simp
  unfold passOn releaseTag
  split
  · split
    · rw [State.setRcs_rcs, hrcs]
      exact hdown _ _
    · rw [hrcs]
      exact ⟨rfl, rfl, rfl⟩
  · rw [hrcs]
    exact ⟨rfl, rfl, rfl⟩

theorem cursors_turret (live : BankId) (read write : Cursor) :
    KeptByTurret (fun s => s.rcs.live = live ∧ s.rcs.readCursor = read ∧ s.rcs.writeCursor = write) where
  infeed k s hs := by
    rw [serveInfeed_rcs]
    split
    · simpa [Rcs.countUp] using hs
    · exact hs
  passOn j m s hs := by simpa only [passOn_cursors] using hs
  handOver k j s _ hs :=
    handOver_keeps (P := fun s => s.rcs.live = live ∧ s.rcs.readCursor = read ∧ s.rcs.writeCursor = write) k j
      (fun _ _ ht => ht) (fun j m t ht => by simpa only [passOn_cursors] using ht) (by simpa using hs)

/-! ### An advance between two pitches -/

theorem spu_eq_of_slot {u v : Spu} (h : v.slot = u.slot) : v = { u with heads := v.heads } := by
  obtain ⟨hposition, hended⟩ := Prod.mk.inj h
  exact spu_eq_of_cycle hposition hended

/-- Settles O5: between two pitches only the heads' points follow the count. -/
theorem advanceBetweenPitches : Obligations.AdvanceBetweenPitches := by
  intro eye caps s hfront hbetween
  refine ⟨_, exec_forward hfront, ?_, ?_, fun k => ?_⟩ <;> rw [beforeHeads_between hbetween]
  · rw [(allTransitions_frame _).1, beforePitch_ptk]
  · have hslot : (allTransitions (beforePitch eye caps s)).spu.slot = s.spu.slot :=
      (slot_turret s.spu.slot).heads (by simp)
    have hspu := spu_eq_of_slot hslot
    apply state_eq
    case hspu => exact hspu
    all_goals simp [inputsAfter]
  · obtain ⟨hservice, hpending⟩ := allTransitions_service (beforePitch eye caps s) k
    rw [hservice, hpending, head_congr (s := s) (by simp)]
    exact ⟨rfl, rfl⟩

/-! ### A pitch event at the Pitch Tracker -/

/-- The lead selected is the lead of R8. -/
theorem leadChosen_selectLead (table : Vector Word 16) (speed : Nat) : LeadChosen table speed (selectLead table speed) := by
  unfold selectLead
  cases hfind : (List.range 8).find? (fun i => decide (speed ≤ leadUpper table i)) with
  | none =>
    refine .inr ⟨fun i hi => ?_, rfl⟩
    have hnone := List.find?_eq_none.1 hfind i (List.mem_range.2 hi)
    simpa using hnone
  | some i =>
    obtain ⟨hreaches, hrange, hfirst⟩ := List.find?_range_eq_some.1 hfind
    refine .inl ⟨i, by simpa using hrange, by simpa using hreaches, fun j hj => ?_, rfl⟩
    simpa using hfirst j hj

theorem speedOf_eq (interval : Nat) :
    speedOf interval = min (60000 / (if interval = 0 then 1 else interval)) 1200 := by
  unfold speedOf
  split
  next hzero => rw [hzero]; rfl
  next hpos => rw [Nat.max_eq_left (Nat.one_le_iff_ne_zero.2 hpos)]

theorem runArbiter_receiver (s : State) :
    (runArbiter s).lif.receiver = s.lif.receiver ∧ (runArbiter s).lif.discardWindow = s.lif.discardWindow := by
  obtain ⟨-, heq⟩ | ⟨f, rest, -, heq⟩ | ⟨g, later, -, heq⟩ := runArbiter_cases s <;> rw [heq] <;> exact ⟨rfl, rfl⟩

/-- The downstream port leaves the receiver and the discard window. -/
theorem pushFrame_receiver (f : Frame) (s : State) :
    (pushFrame f s).lif.receiver = s.lif.receiver ∧ (pushFrame f s).lif.discardWindow = s.lif.discardWindow := by
  unfold pushFrame runArbiterIfIdle
  split
  · split
    · exact runArbiter_receiver _
    · exact ⟨rfl, rfl⟩
  · exact ⟨rfl, rfl⟩

theorem passOn_receiver (j : Jar) (m : Option Int) (s : State) :
    (passOn j m s).lif.receiver = s.lif.receiver ∧ (passOn j m s).lif.discardWindow = s.lif.discardWindow := by
  have hlif : (passOn j m s).lif = (completeJar j m s).lif := by simp [passOn]
  rw [hlif]
  unfold completeJar pushJarFrame
  dsimp only
  split
  · simp [pushFrame_receiver]
  · simp

theorem receiver_turret (receiver : Receiver) (window : List Bool) :
    KeptByTurret (fun s => s.lif.receiver = receiver ∧ s.lif.discardWindow = window) where
  passOn j m s hs := by simpa only [passOn_receiver] using hs
  handOver k j s _ hs :=
    handOver_keeps (P := fun s => s.lif.receiver = receiver ∧ s.lif.discardWindow = window) k j
      (fun _ _ ht => ht) (fun j m t ht => by simpa only [passOn_receiver] using ht) (by simpa using hs)

/-- Settles O6: the Pitch Tracker's part of a pitch event comes before the rest, which leaves it as it is. -/
theorem pitchEventTracks : Obligations.PitchEventTracks := by
  intro eye caps s hdue
  obtain ⟨hfront, hpitch⟩ := hdue
  have hptk : (allTransitions (beforeHeads eye caps s)).ptk = (beforePitch eye caps s).ptk.pitched := by
    rw [(allTransitions_frame _).1, beforeHeads_ptk, if_pos hpitch]
  have hkeep {P : State → Prop} (hp : KeptByTurret P) (hs : P (beforePitch eye caps s)) :
      P (allTransitions (beforeHeads eye caps s)) := by
    rw [beforeHeads_of_pitchDue hpitch]
    exact hp.heads (hp.pitch hs)
  have hslot := hkeep (slot_turret s.spu.slot) (by simp)
  obtain ⟨hlive, hread, hwrite⟩ := hkeep (cursors_turret s.rcs.live s.rcs.readCursor s.rcs.writeCursor)
    (by simp)
  obtain ⟨hreceiver, hwindow⟩ := hkeep (receiver_turret s.lif.receiver s.lif.discardWindow)
    (by simp)
  refine ⟨_, exec_forward hfront, ?_, ?_, ?_, ?_, ?_, ?_, ?_, ?_, ?_, spu_eq_of_slot hslot, hlive, hread, hwrite,
    hreceiver, hwindow⟩
  · rw [hptk, beforePitch_ptk]
    rfl
  · rw [hptk, beforePitch_ptk, ← speedOf_eq]
    rfl
  · rw [hptk, beforePitch_ptk]
    exact leadChosen_selectLead _ _
  · rw [hptk, beforePitch_ptk]
    simp only [Ptk.pitched, chooseLead, measurePitch, hfront.2]
  all_goals simp [beforeHeads_of_pitchDue hpitch, inputsAfter]

end Sys2Proof.Machine
end

section
/-! The infeed and the exit at a pitch event (R26 to R30, R34 to R37, R47, R66, R80, R107, R108): what the infeed match finds,
the head it loads, and the jar the exit hands over. -/

namespace Sys2Proof.Machine

open Sys2Proof.Claims

/-! ### The record level with P (R27) -/

section
variable {s : State}

/-- In a queue the record level with P is the oldest (R18, R27). -/
theorem oldestLevel_iff (hs : QueueOrdered s) {r : JarRecord} :
    oldestLevel s = some r ↔ r ∈ s.ifq ∧ r.pitch = s.ptk.p := by
  rw [oldestLevel_eq_some]
  constructor
  · rintro ⟨rest, hqueue, hlevel⟩
    exact ⟨hqueue ▸ List.mem_cons_self, hlevel⟩
  · rintro ⟨hmem, hlevel⟩
    obtain ⟨-, hordered⟩ := hs
    cases hqueue : s.ifq with
    | nil => simp [hqueue] at hmem
    | cons q rest =>
      rw [hqueue] at hmem hordered
      obtain rfl | hlater := List.mem_cons.1 hmem
      · exact ⟨rest, rfl, hlevel⟩
      · have hbefore := (List.pairwise_cons.1 hordered).1 r hlater
        rw [(recordOffset_eq_zero _ _).2 hlevel] at hbefore
        exact absurd hbefore (Nat.not_lt_zero _)

theorem oldestLevel_eq_none (hs : QueueOrdered s) : oldestLevel s = none ↔ ∀ r ∈ s.ifq, r.pitch ≠ s.ptk.p := by
  rw [Option.eq_none_iff_forall_not_mem]
  simp only [Option.mem_def, oldestLevel_iff hs, not_and]

/-- The infeed removes the record level with P, and no other (R28, R29). -/
theorem mem_serveInfeed_ifq_iff (hs : QueueOrdered s) (k : Fin 12) (q : JarRecord) :
    q ∈ (serveInfeed k s).ifq ↔ q ∈ s.ifq ∧ q.pitch ≠ s.ptk.p := by
  rw [serveInfeed_ifq]
  split
  next hsome =>
    obtain ⟨r, hr⟩ := Option.isSome_iff_exists.1 hsome
    obtain ⟨rest, hqueue, hlevel⟩ := oldestLevel_eq_some.1 hr
    have hdistinct := distinct_of_strict hs.2
    rw [hqueue, List.pairwise_cons] at hdistinct
    rw [hqueue, List.tail_cons, List.mem_cons]
    constructor
    · exact fun hmem => ⟨.inr hmem, fun heq => hdistinct.1 q hmem (hlevel.trans heq.symm)⟩
    · rintro ⟨rfl | hmem, hne⟩
      · exact absurd hlevel hne
      · exact hmem
  next hnone =>
    have hlevel := (oldestLevel_eq_none hs).1 (Option.not_isSome_iff_eq_none.1 hnone)
    exact ⟨fun hmem => ⟨hmem, hlevel q hmem⟩, And.left⟩

end

/-! ### What the infeed finds -/

section
variable {eye : Bool} {caps : BitVec 12} {s : State}

theorem readyToServe_p (eye : Bool) (caps : BitVec 12) (s : State) : (readyToServe eye caps s).ptk.p = s.ptk.p + 1 := by
  rw [readyToServe_ptk, beforePitch_ptk]
  rfl

theorem readyToServe_sync (eye : Bool) (caps : BitVec 12) (s : State) :
    (readyToServe eye caps s).ptk.sync = s.ptk.sync := by
  rw [readyToServe_ptk, beforePitch_ptk]
  rfl

theorem behind_self (p : Word) : behind p p = false := by simp [behind]

theorem readyToServe_queue (eye : Bool) (caps : BitVec 12) (hs : QueueOrdered s) :
    QueueOrdered (readyToServe eye caps s) := by
  have hrepitched : QueueOrdered (repitched (beforePitch eye caps s)) := by
    obtain ⟨hp, -, hifq, -⟩ := repitched_finds (beforePitch eye caps s)
    obtain ⟨hp', -, hifq', -⟩ := beforePitch_finds eye caps s
    rw [QueueOrdered, hp, hifq, hp', hifq']
    exact queueAt_orderRecords _ hs
  unfold readyToServe purgeIfSynced
  split
  · exact queueOrdered_purgeBehind hrepitched
  · exact hrepitched

/-- The records the infeed finds: in SYNCED the stale ones have gone (R26). -/
theorem mem_readyToServe_ifq (eye : Bool) (caps : BitVec 12) (s : State) (q : JarRecord) :
    q ∈ (readyToServe eye caps s).ifq ↔ q ∈ s.ifq ∧ (s.ptk.sync = .synced → behind q.pitch (s.ptk.p + 1) = false) := by
  obtain ⟨hp, hsync, hifq, -⟩ := repitched_finds (beforePitch eye caps s)
  obtain ⟨hp', hsync', hifq', -⟩ := beforePitch_finds eye caps s
  rw [hp'] at hp hifq
  rw [hsync'] at hsync
  rw [hifq'] at hifq
  have hmem : q ∈ orderRecords (s.ptk.p + 1) s.ifq ↔ q ∈ s.ifq := (orderRecords_perm _ _).mem_iff
  cases hcase : s.ptk.sync with
  | synced =>
    rw [readyToServe, purgeIfSynced_of_synced (hsync.trans hcase), purgeBehind_ifq, hp, hifq, List.mem_filter, hmem]
    simp
  | unsynced =>
    rw [readyToServe, purgeIfSynced_of_unsynced (hsync.trans hcase), hifq, hmem]
    simp

theorem purgeBehind_raises (s : State) : RaisesAmong [.infeedStale] s.flt (purgeBehind s).flt := by
  unfold purgeBehind
  exact raisesAmong_foldl
    (fun t r => raisesAmong_raise (e := ⟨.infeedStale, t.ptk.p, lowByte r.pitch⟩) (by simp)) (raisesAmong_refl _ s.flt)

/-- The stale removal raises nothing but INFEED_STALE (R26). -/
theorem readyToServe_active (eye : Bool) (caps : BitVec 12) (s : State) {c : FaultCode} (hc : c ≠ .infeedStale) :
    (readyToServe eye caps s).flt.active c = s.flt.active c := by
  obtain ⟨-, -, -, hflt⟩ := repitched_finds (beforePitch eye caps s)
  obtain ⟨-, -, -, hflt'⟩ := beforePitch_finds eye caps s
  rw [← hflt', ← hflt, readyToServe, purgeIfSynced]
  split
  · have hraises : RaisesAmong [.infeedStale] (repitched (beforePitch eye caps s)).flt
        (purgeBehind (repitched (beforePitch eye caps s))).flt := purgeBehind_raises _
    exact hraises.active_eq (by simpa using hc)
  · rfl

/-- The records left by the report are those that the infeed leaves. -/
theorem mem_ifq_after (h : PitchDue s) (hs : QueueOrdered s) (q : JarRecord) :
    q ∈ (allTransitions (beforeHeads eye caps s)).ifq ↔ q ∈ s.ifq ∧ q.pitch ≠ s.ptk.p + 1 ∧
      (s.ptk.sync = .synced → behind q.pitch (s.ptk.p + 1) = false) := by
  have hifq : (allTransitions (beforeHeads eye caps s)).ifq =
      (serveInfeed (infeedAt s) (readyToServe eye caps s)).ifq := by
    rw [beforeHeads_pitch h.2]
    simp
  rw [hifq, mem_serveInfeed_ifq_iff (readyToServe_queue eye caps hs), mem_readyToServe_ifq, readyToServe_p]
  exact ⟨fun ⟨⟨hmem, hahead⟩, hne⟩ => ⟨hmem, hne, hahead⟩, fun ⟨hmem, hne, hahead⟩ => ⟨⟨hmem, hahead⟩, hne⟩⟩

theorem p_after (h : PitchDue s) : (allTransitions (beforeHeads eye caps s)).ptk.p = s.ptk.p + 1 := by
  rw [(allTransitions_frame _).1, beforeHeads_ptk, if_pos h.2, ← readyToServe_ptk, readyToServe_p]

theorem oldestLevel_readyToServe (hs : QueueOrdered s) (r : JarRecord) :
    oldestLevel (readyToServe eye caps s) = some r ↔ r ∈ s.ifq ∧ r.pitch = s.ptk.p + 1 := by
  rw [oldestLevel_iff (readyToServe_queue eye caps hs), readyToServe_p, mem_readyToServe_ifq]
  constructor
  · rintro ⟨⟨hmem, -⟩, hlevel⟩
    exact ⟨hmem, hlevel⟩
  · rintro ⟨hmem, hlevel⟩
    exact ⟨⟨hmem, fun _ => by rw [hlevel, behind_self]⟩, hlevel⟩

end

/-! ### The head a load leaves (R34 to R37) -/

section
variable {s : State} {k : Fin 12}

/-- The context a load leaves, in a state and with a jar. -/
def loadedAs (h : Head) (st : HeadState) (j : Option Jar) : Head := ⟨serviceAtLoad h, none, st, j⟩

theorem applyPendingService_eq (h : Head) :
    applyPendingService h = { h with service := serviceAtLoad h, pendingService := none } := by
  obtain ⟨service, pending, state, jar⟩ := h
  cases pending <;> rfl

theorem beginLoad_head (k : Fin 12) (s : State) :
    (beginLoad k s).head k = { s.head k with service := serviceAtLoad (s.head k), pendingService := none } := by
  simp [beginLoad, applyPendingService_eq]

theorem beginLoad_releaseHold (k : Fin 12) (s : State) : ((beginLoad k s).spindle k).releaseHold = .free := by
  simp [beginLoad]

theorem loadNothing_head (k : Fin 12) (s : State) :
    (loadNothing k s).head k = loadedAs (s.head k) .empty none := by
  simp [loadNothing, beginLoad_head, loadedAs]

theorem loadUntracked_head (k : Fin 12) (r : JarRecord) (s : State) : (loadUntracked k r s).head k =
    loadedAs (s.head k) .settled (some (newJar r false none false none .untracked)) := by
  simp [loadUntracked, beginLoad_head, loadedAs]

/-- A tracked jar on an OUT head is lost (R34). -/
theorem loadTracked_out (r : JarRecord) (hout : serviceAtLoad (s.head k) = .outOfService) :
    (loadTracked k r s).head k = loadedAs (s.head k) .settled (some (trackedJar s.rcs r .headLost)) := by
  simp [loadTracked, beginLoad_head, loadedAs, hout]

/-- A tracked jar without a usable recipe is settled, and RECIPE_UNUSABLE raised (R37). -/
theorem loadTracked_unusable (r : JarRecord) (hin : serviceAtLoad (s.head k) = .inService)
    (hunusable : usableAtLoad s.rcs r = false) :
    (loadTracked k r s).head k = loadedAs (s.head k) .settled (some (trackedJar s.rcs r .noRecipe)) ∧
    (loadTracked k r s).flt = s.flt.raise ⟨.recipeUnusable, s.ptk.p, r.recipe⟩ := by
  simp [loadTracked, beginLoad_head, loadedAs, hin, hunusable]

/-- A tracked jar with a usable recipe starts its cycle (R34). -/
theorem loadTracked_usable (r : JarRecord) (hin : serviceAtLoad (s.head k) = .inService)
    (husable : usableAtLoad s.rcs r = true) :
    (loadTracked k r s).head k = loadedAs (s.head k) .loaded (some (trackedJar s.rcs r .pending)) := by
  simp [loadTracked, beginLoad_head, loadedAs, hin, husable]

theorem loadTracked_valve (k : Fin 12) (r : JarRecord) (s : State) : (loadTracked k r s).valve k = false := by
  unfold loadTracked
  dsimp only
  (repeat' split) <;> simp [beginLoad_valve]

/-- Whatever the load, the valve is CLOSED and the release hold none (R34, R81). -/
theorem serveInfeed_valve (k : Fin 12) (s : State) : (serveInfeed k s).valve k = false := by
  unfold serveInfeed
  split
  · exact loadTracked_valve k _ _
  · simp [loadNothing, beginLoad_valve]
  · split <;> simp [loadUntracked, beginLoad_valve]
  · simp [loadNothing, beginLoad_valve]

theorem serveInfeed_releaseHold (k : Fin 12) (s : State) : ((serveInfeed k s).spindle k).releaseHold = .free := by
  rw [spindle_congr (serveInfeed_spu k s), beginLoad_releaseHold]

theorem serveInfeed_tracked {r : JarRecord} (hlevel : oldestLevel s = some r) (heye : s.pins.infeedEye = true) :
    serveInfeed k s = loadTracked k r (s.setIfq s.ifq.tail) := by simp only [serveInfeed, hlevel, heye]

theorem serveInfeed_ghost {r : JarRecord} (hlevel : oldestLevel s = some r) (heye : s.pins.infeedEye = false) :
    serveInfeed k s = loadNothing k ((s.setIfq s.ifq.tail).raise .ghostRecord (headByte k)) := by
  simp only [serveInfeed, hlevel, heye]

theorem serveInfeed_stray (hlevel : oldestLevel s = none) (heye : s.pins.infeedEye = true) :
    serveInfeed k s = loadUntracked k (strayRecord s.ptk.p)
      (if s.ptk.sync = .synced then s.raise .strayJar (headByte k) else s) := by simp only [serveInfeed, hlevel, heye]

theorem serveInfeed_empty (hlevel : oldestLevel s = none) (heye : s.pins.infeedEye = false) :
    serveInfeed k s = loadNothing k s := by simp only [serveInfeed, hlevel, heye]

end

/-! ### A head that passes no point -/

section
variable {s : State} {k : Fin 12}

/-- A SETTLED head is past every row of R38. -/
theorem pointsPassed_of_settled (g : Stage) {v : View} (h : v.state = .settled) : g.passed v = v := by
  simp [Stage.passed, pointsPassed, openRow, closeRow, applyRow, torqueRow, zoneRow, h]

/-- A LOADED head short of its flush zone passes no point. -/
theorem pointsPassed_of_loaded (g : Stage) {v : View} (h : v.state = .loaded) (hshort : g.angle + g.lead < g.field .flushStart) :
    g.passed v = v := by
  have hopen : ¬g.field .flushStart ≤ g.angle + g.lead := Nat.not_le.2 hshort
  simp [Stage.passed, pointsPassed, openRow, closeRow, applyRow, torqueRow, zoneRow, h, hopen]

/-- A head whose jar passes no point is left as it is. -/
theorem allTransitions_of_stays {j : Jar} (hj : (s.head k).jar = some j)
    (hstays : ∀ v : View, v.state = (s.head k).state → v.jar = j → (stageOf s k j).passed v = v) :
    SameHead s (allTransitions s) k := by
  have hshows : Shows s k ⟨(s.head k).state, j, s.valve k, s.spindle k⟩ := ⟨rfl, hj, rfl, rfl⟩
  have hafter := shows_allTransitions hshows
  rw [hstays _ rfl rfl] at hafter
  obtain ⟨hservice, hpending⟩ := allTransitions_service s k
  refine ⟨?_, hafter.valve, hafter.spindle⟩
  rw [hafter.head_eq hservice hpending]
  cases hh : s.head k
  simp_all

end

/-! ### The head at the infeed -/

section
variable {eye : Bool} {caps : BitVec 12} {s : State} {k : Fin 12}

/-- The exit leaves the head at the infeed. -/
theorem sameHead_infeed (h : PitchDue s) :
    SameHead (serveInfeed (infeedAt s) (readyToServe eye caps s)) (beforeHeads eye caps s) (infeedAt s) := by
  rw [beforeHeads_pitch h.2]
  exact sameHead_serveExit (by simp [Fin.ext_iff]) _

theorem readyToServe_head (eye : Bool) (caps : BitVec 12) (s : State) (k : Fin 12) :
    (readyToServe eye caps s).head k = s.head k := head_congr (readyToServe_frame eye caps s).2.1 k

theorem readyToServe_eye (eye : Bool) (caps : BitVec 12) (s : State) : (readyToServe eye caps s).pins.infeedEye = eye := by
  simp [readyToServe, repitched]

theorem raises_after_infeed (h : PitchDue s) :
    RaisesAmong (exitCodes ++ capCodes) (serveInfeed (infeedAt s) (readyToServe eye caps s)).flt
      (allTransitions (beforeHeads eye caps s)).flt := by
  rw [beforeHeads_pitch h.2]
  exact ((serveExit_raises _ _).mono (by simp)).trans ((allTransitions_raises _).mono (by simp))

/-- A fault that the infeed raises is raised in the report, whatever the exit and the heads raise after it. -/
theorem entered_of_infeed (h : PitchDue s) {c : FaultCode} {d : Byte} (hc : c ≠ .infeedStale)
    (hentered : Entered (readyToServe eye caps s) (serveInfeed (infeedAt s) (readyToServe eye caps s)) c d) :
    Entered s (allTransitions (beforeHeads eye caps s)) c d := by
  obtain ⟨hactive, hentry⟩ := entered_of_raisesAmong hentered (raises_after_infeed h) (by rw [beforeHeads_pitch h.2]; simp)
  exact ⟨hactive, fun hs => hentry ((readyToServe_active eye caps s hc).trans hs)⟩

theorem entered_raise {t : State} (c : FaultCode) (d : Byte) (hflt : t.flt = s.flt.raise ⟨c, s.ptk.p, d⟩)
    (hp : t.ptk.p = s.ptk.p) : Entered s t c d := by
  rw [Entered, hflt, hp]
  exact ⟨active_raise_self _ _, fun hs => mem_held_raise.2 (.inr ⟨hs, rfl⟩)⟩

/-- A head that the infeed leaves with no jar or SETTLED is left so by the report. -/
theorem sameHead_after_infeed (h : PitchDue s)
    (hstays : ((serveInfeed (infeedAt s) (readyToServe eye caps s)).head (infeedAt s)).jar = none ∨
      ((serveInfeed (infeedAt s) (readyToServe eye caps s)).head (infeedAt s)).state = .settled) :
    SameHead (serveInfeed (infeedAt s) (readyToServe eye caps s)) (allTransitions (beforeHeads eye caps s))
      (infeedAt s) := by
  have hsame := sameHead_infeed (eye := eye) (caps := caps) h
  refine hsame.trans ?_
  rw [← hsame.head] at hstays
  cases hj : ((beforeHeads eye caps s).head (infeedAt s)).jar with
  | none => exact allTransitions_of_none hj
  | some j =>
    have hsettled := hstays.resolve_left (by simp [hj])
    exact allTransitions_of_stays hj fun v hv _ => pointsPassed_of_settled _ (hv.trans hsettled)

theorem infeed_closed (h : PitchDue s)
    (hstays : ((serveInfeed (infeedAt s) (readyToServe eye caps s)).head (infeedAt s)).jar = none ∨
      ((serveInfeed (infeedAt s) (readyToServe eye caps s)).head (infeedAt s)).state = .settled) :
    (allTransitions (beforeHeads eye caps s)).valve (infeedAt s) = false ∧
    ((allTransitions (beforeHeads eye caps s)).spindle (infeedAt s)).releaseHold = .free := by
  obtain ⟨-, hvalve, hspindle⟩ := sameHead_after_infeed h hstays
  rw [hvalve, hspindle, serveInfeed_valve, serveInfeed_releaseHold]
  exact ⟨rfl, rfl⟩

/-- With no jar at the infeed the head is loaded with nothing (R29, R34). -/
theorem infeed_absent_head (caps : BitVec 12) (s : State) (k : Fin 12) :
    (serveInfeed k (readyToServe false caps s)).head k = loadedAs (s.head k) .empty none := by
  have heye := readyToServe_eye false caps s
  cases hlevel : oldestLevel (readyToServe false caps s) with
  | none => rw [serveInfeed_empty hlevel heye, loadNothing_head, readyToServe_head]
  | some r => rw [serveInfeed_ghost hlevel heye, loadNothing_head, head_raise, head_setIfq, readyToServe_head]

/-- A jar with no record level with P is loaded untracked (R30, R34). -/
theorem infeed_stray (caps : BitVec 12) (s : State) (k : Fin 12)
    (hlevel : oldestLevel (readyToServe true caps s) = none) :
    (serveInfeed k (readyToServe true caps s)).head k = loadedAs (s.head k) .settled
      (some (freshJar ⟨s.ptk.p + 1, 0, 15, 0, false, 0, []⟩ false none false none .untracked)) ∧
    (serveInfeed k (readyToServe true caps s)).flt = if s.ptk.sync = .synced then
      (readyToServe true caps s).flt.raise ⟨.strayJar, (readyToServe true caps s).ptk.p, headByte k⟩
      else (readyToServe true caps s).flt := by
  rw [serveInfeed_stray hlevel (readyToServe_eye true caps s), loadUntracked_head, readyToServe_p, readyToServe_sync]
  refine ⟨?_, ?_⟩
  · congr 1
    split <;> simp [readyToServe_head]
  · split <;> simp [readyToServe_p]

/-- Settles O11: the infeed removes the record level with P, and loads nothing or an untracked jar. -/
theorem infeedUnmatched : Obligations.InfeedUnmatched := by
  intro eye caps s k hdue hqueue hangle hunmatched
  obtain rfl := (angle_eq_infeed_iff hdue k).1 hangle
  have hifq (q : JarRecord) : q ∈ (allTransitions (beforeHeads eye caps s)).ifq ↔ q ∈ s.ifq ∧ q.pitch ≠ s.ptk.p + 1 ∧
      (s.ptk.sync = .synced → behind q.pitch (allTransitions (beforeHeads eye caps s)).ptk.p = false) := by
    rw [mem_ifq_after hdue hqueue, p_after hdue]
  cases eye with
  | false =>
    have hload := infeed_absent_head caps s (infeedAt s)
    have hstays := Or.inl (b := ((serveInfeed (infeedAt s) (readyToServe false caps s)).head (infeedAt s)).state = .settled)
      (congrArg Head.jar hload)
    obtain ⟨hvalve, hhold⟩ := infeed_closed hdue hstays
    refine ⟨_, exec_forward hdue.1, hifq, hvalve, hhold, fun _ => ⟨?_, fun r hr hlevel => ?_⟩, fun h => nomatch h⟩
    · exact (sameHead_after_infeed hdue hstays).head.trans hload
    · have holdest := (oldestLevel_readyToServe (eye := false) (caps := caps) hqueue r).2 ⟨hr, hlevel⟩
      refine entered_of_infeed hdue (by decide) (entered_raise _ _ ?_ (by simp))
      rw [serveInfeed_ghost holdest (readyToServe_eye false caps s), (loadNothing_frame _ _).2.2.2.2.2.2.2.2.1]
      rfl
  | true =>
    have hnone : oldestLevel (readyToServe true caps s) = none := by
      rw [Option.eq_none_iff_forall_not_mem]
      intro r hr
      obtain ⟨hmem, hlevel⟩ := (oldestLevel_readyToServe hqueue r).1 hr
      exact hunmatched rfl r hmem hlevel
    obtain ⟨hload, hflt⟩ := infeed_stray caps s (infeedAt s) hnone
    have hstays := Or.inr (a := ((serveInfeed (infeedAt s) (readyToServe true caps s)).head (infeedAt s)).jar = none)
      (congrArg Head.state hload)
    obtain ⟨hvalve, hhold⟩ := infeed_closed hdue hstays
    refine ⟨_, exec_forward hdue.1, hifq, hvalve, hhold, (fun h => nomatch h),
      fun _ => ⟨?_, fun hsync => ?_, fun hsync => ?_⟩⟩
    · exact (sameHead_after_infeed hdue hstays).head.trans hload
    · rw [if_pos hsync] at hflt
      exact entered_of_infeed hdue (by decide) (entered_raise _ _ hflt (by simp))
    · rw [if_neg (by simp [hsync])] at hflt
      rw [← readyToServe_active true caps s (by decide), ← hflt]
      exact (raises_after_infeed hdue).active_eq (by decide)

/-! ### The tracked case -/

/-- With an empty Outfeed Line the exit takes no jar out of the counts (R107, R108). -/
theorem serveExit_rcs_of_empty (k : Fin 12) {t : State} (hline : t.ofl = []) : (serveExit k t).rcs = t.rcs := by
  have hremove (u : State) (hu : u.ofl = []) : (removeOverdue u).rcs = u.rcs ∧ (removeOverdue u).ofl = [] := by
    simp [removeOverdue, hu]
  have hjoin (j : Jar) (u : State) (hu : u.ofl = []) : (joinOutfeed j u).rcs = u.rcs := by
    have hroom : makeRoom u = u := by rw [makeRoom, hu]
    rw [joinOutfeed, hroom]
    rfl
  unfold serveExit
  dsimp only
  split
  · obtain ⟨hrcs, hofl⟩ := hremove (vacate k (headTransitions k t)) (by simp [hline])
    rw [hjoin _ _ hofl, hrcs]
    simp
  · obtain ⟨hrcs, -⟩ := hremove (headTransitions k t) (by simp [hline])
    rw [hrcs]
    simp

/-- The words of the LIVE bank. -/
def Rcs.liveWords (r : Rcs) : Vector Word 160 := (r.bank r.live).words

theorem countUp_liveWords (r : Rcs) (i : BankId) : (r.countUp i).liveWords = r.liveWords := by
  obtain ⟨hlive, -, -, hwords, -⟩ := countUp_eq r i
  rw [Rcs.liveWords, hlive, hwords, Rcs.liveWords]

theorem countDown_liveWords (r : Rcs) (i : BankId) : (r.countDown i).liveWords = r.liveWords := by
  have hset : (r.setBank i ⟨(r.bank i).words, (r.bank i).inFlight - 1⟩).liveWords = r.liveWords := by
    rw [Rcs.liveWords, setBank_live]
    exact words_setBank_inFlight r i r.live _
  obtain ⟨-, -, heq⟩ | ⟨-, heq⟩ := countDown_cases r i <;> rw [heq]
  · obtain ⟨hlive, -, hbank, -⟩ := refill_eq (r.setBank i ⟨(r.bank i).words, (r.bank i).inFlight - 1⟩)
    rw [Rcs.liveWords, hlive, hbank]
    exact hset
  · exact hset

/-- A completion leaves the LIVE bank's words, whichever bank it releases (R91, R101). -/
theorem passOn_liveWords (j : Jar) (m : Option Int) (s : State) : (passOn j m s).rcs.liveWords = s.rcs.liveWords := by
  have hrcs : (completeJar j m s).rcs = s.rcs := by simp
  unfold passOn releaseTag
  split
  · split
    · rw [State.setRcs_rcs, countDown_liveWords, hrcs]
    · rw [hrcs]
  · rw [hrcs]

theorem liveWords_turret (live : BankId) (words : Vector Word 160) :
    KeptByTurret (fun s => s.rcs.live = live ∧ s.rcs.liveWords = words) where
  infeed k s hs := by
    rw [serveInfeed_rcs]
    split
    · rwa [(countUp_eq _ _).1, countUp_liveWords]
    · exact hs
  passOn j m s hs := by rwa [(passOn_cursors j m s).1, passOn_liveWords]
  handOver k j s _ hs :=
    handOver_keeps (P := fun s => s.rcs.live = live ∧ s.rcs.liveWords = words) k j
      (fun _ _ ht => ht) (fun j m t ht => by rwa [(passOn_cursors j m t).1, passOn_liveWords]) (by simpa using hs)

theorem torqueStartPoint_releaseHold (k : Fin 12) (s : State) (l : Fin 12) :
    ((torqueStartPoint k s).spindle l).releaseHold = (s.spindle l).releaseHold := by
  by_cases hne : k = l
  · subst hne
    unfold torqueStartPoint
    (repeat' split) <;> simp
  · rw [(sameHead_torqueStartPoint hne s).spindle]

/-- The points of R38 leave the release holds. -/
theorem headTransitions_releaseHold (k : Fin 12) (s : State) (l : Fin 12) :
    ((headTransitions k s).spindle l).releaseHold = (s.spindle l).releaseHold := by
  rw [headTransitions, spindle_congr (t := torqueEndPoint k _)
    (s := torqueStartPoint k (applyPoint k (closePoint k (openPoint k s)))) (by simp), torqueStartPoint_releaseHold,
    spindle_congr (s := s) (by simp)]

theorem allTransitions_releaseHold (s : State) (l : Fin 12) :
    ((allTransitions s).spindle l).releaseHold = (s.spindle l).releaseHold :=
  foldl_keeps (fun t => (t.spindle l).releaseHold) _ (fun t k => headTransitions_releaseHold k t l) allHeads s

theorem leadChosen_le {table : Vector Word 16} {speed lead n : Nat} (hchosen : LeadChosen table speed lead)
    (hle : ∀ i, i < 8 → leadOf table i ≤ n) : lead ≤ n := by
  obtain ⟨i, hi, -, -, rfl⟩ | ⟨-, rfl⟩ := hchosen
  · exact hle i hi
  · exact hle 7 (by decide)

/-- What the infeed finds when a record is level with P and a jar stands there: the record leaves and its jar is loaded. -/
theorem infeed_tracked (hqueue : QueueOrdered s) {r : JarRecord} (hr : r ∈ s.ifq) (hlevel : r.pitch = s.ptk.p + 1)
    (caps : BitVec 12) (k : Fin 12) : serveInfeed k (readyToServe true caps s) =
      loadTracked k r ((readyToServe true caps s).setIfq (readyToServe true caps s).ifq.tail) :=
  serveInfeed_tracked ((oldestLevel_readyToServe hqueue r).2 ⟨hr, hlevel⟩) (readyToServe_eye true caps s)

theorem readyToServe_rcs (eye : Bool) (caps : BitVec 12) (s : State) : (readyToServe eye caps s).rcs = s.rcs :=
  (readyToServe_frame eye caps s).2.2.2.1

/-- The jar part of a tracked jar at load, with the recipe check and the temperature written out (R33, R35 to R37). -/
theorem trackedJar_eq (rcs : Rcs) (r : JarRecord) (c : Closure) : trackedJar rcs r c =
    freshJar r true (some rcs.live) (decide (r.recipe.toNat ≤ 7 ∧ bankField rcs.liveWords r.recipe.toNat .valid = 1))
      (if r.tempPresent then some (max 600 (min 990 r.temp.toNat))
        else if decide (r.recipe.toNat ≤ 7 ∧ bankField rcs.liveWords r.recipe.toNat .valid = 1) then
          some (bankField rcs.liveWords r.recipe.toNat .defaultTemp)
        else none) c := rfl

/-- The lead chosen is in the range its table gives it (R7, R8). -/
theorem beforeHeads_lead_le (h : PitchDue s) (hleads : ∀ i, i < 8 → leadOf s.ptk.leadTable i ≤ 60) :
    (beforeHeads eye caps s).ptk.lead ≤ 60 := by
  rw [beforeHeads_ptk, if_pos h.2, beforePitch_ptk]
  exact leadChosen_le (leadChosen_selectLead _ _) hleads

theorem beforeHeads_liveWords (h : PitchDue s) :
    (beforeHeads eye caps s).rcs.live = s.rcs.live ∧ (beforeHeads eye caps s).rcs.liveWords = s.rcs.liveWords := by
  rw [beforeHeads_of_pitchDue h.2]
  exact (liveWords_turret s.rcs.live s.rcs.liveWords).pitch (by simp)

/-- A jar loaded in its ranges reaches no point at the load (R7, R38, R87). -/
theorem sameHead_loaded (h : PitchDue s) {j : Jar} (hleads : ∀ i, i < 8 → leadOf s.ptk.leadTable i ≤ 60)
    (hstart : 61 ≤ bankField s.rcs.liveWords j.record.recipe.toNat .flushStart) (htag : j.tag = some s.rcs.live)
    (hjar : ((serveInfeed (infeedAt s) (readyToServe eye caps s)).head (infeedAt s)).jar = some j)
    (hloaded : ((serveInfeed (infeedAt s) (readyToServe eye caps s)).head (infeedAt s)).state = .loaded) :
    SameHead (serveInfeed (infeedAt s) (readyToServe eye caps s)) (allTransitions (beforeHeads eye caps s))
      (infeedAt s) := by
  have hsame := sameHead_infeed (eye := eye) (caps := caps) h
  rw [← hsame.head] at hjar hloaded
  refine hsame.trans (allTransitions_of_stays hjar fun v hv hvj => pointsPassed_of_loaded _ (hv.trans hloaded) ?_)
  have hangle : (beforeHeads eye caps s).angle (infeedAt s) = 0 := by
    rw [beforeHeads_angle_succ h.1, (angle_eq_infeed_iff h _).2 rfl]
  have hlead : (beforeHeads eye caps s).ptk.lead ≤ 60 := beforeHeads_lead_le h hleads
  obtain ⟨hlive, hwords⟩ := beforeHeads_liveWords (eye := eye) (caps := caps) h
  have hfield : (beforeHeads eye caps s).rcs.jarField j .flushStart =
      bankField s.rcs.liveWords j.record.recipe.toNat .flushStart := by
    rw [← hwords, Rcs.liveWords, hlive]
    simp only [Rcs.jarField, htag]
  simp only [stageOf, hangle, hfield]
  omega

/-- Settles O10: the record level with P leaves, and the jar is loaded by its head's service and its recipe. -/
theorem infeedTracked : Obligations.InfeedTracked := by
  intro caps s k r hdue hqueue hangle hr hlevel
  obtain rfl := (angle_eq_infeed_iff hdue k).1 hangle
  have hinfeed := infeed_tracked hqueue hr hlevel caps (infeedAt s)
  have hfound : ∃ u, (readyToServe true caps s).setIfq (readyToServe true caps s).ifq.tail = u ∧
      u.rcs = s.rcs ∧ u.head (infeedAt s) = s.head (infeedAt s) ∧ u.ptk.p = (readyToServe true caps s).ptk.p ∧
      u.flt = (readyToServe true caps s).flt :=
    ⟨_, rfl, readyToServe_rcs true caps s, readyToServe_head true caps s _, rfl, rfl⟩
  obtain ⟨u, hu, hrcs, hhead, hp, hflt⟩ := hfound
  rw [hu] at hinfeed
  have hunique (q : JarRecord) (hq : q ∈ s.ifq) : q.pitch ≠ s.ptk.p + 1 ↔ q ≠ r := by
    have hsymm : Std.Symm (fun a b : JarRecord => a.pitch ≠ b.pitch) := ⟨fun _ _ => Ne.symm⟩
    refine ⟨fun hne heq => hne (heq ▸ hlevel), fun hne => ?_⟩
    rw [← hlevel]
    exact (distinct_of_strict hqueue.2).forall hq hr hne
  refine ⟨_, exec_forward hdue.1, fun q => ?_, ?_, fun hline => ?_, fun hout => ?_, fun hin hunusable => ?_,
    fun hin husable hleads hstart => ?_⟩
  · rw [mem_ifq_after hdue hqueue, p_after hdue]
    exact ⟨fun ⟨hq, hne, hahead⟩ => ⟨hq, (hunique q hq).1 hne, hahead⟩,
      fun ⟨hq, hne, hahead⟩ => ⟨hq, (hunique q hq).2 hne, hahead⟩⟩
  · rw [allTransitions_releaseHold, (sameHead_infeed hdue).spindle, serveInfeed_releaseHold]
  · have hofl : (serveInfeed (infeedAt s) (readyToServe true caps s)).ofl = [] := by simp [readyToServe_frame, hline]
    rw [(allTransitions_frame _).2.2.2.1, beforeHeads_pitch hdue.2, serveExit_rcs_of_empty _ hofl, hinfeed,
      loadTracked_rcs, hrcs]
    simp [countUp_eq]
  · rw [← hhead] at hout
    have hload := loadTracked_out r hout
    rw [← hinfeed, hrcs, loadedAs, hout, trackedJar_eq] at hload
    have hstays := Or.inr (a := ((serveInfeed (infeedAt s) (readyToServe true caps s)).head (infeedAt s)).jar = none)
      (congrArg Head.state hload)
    exact ⟨(infeed_closed hdue hstays).1, (sameHead_after_infeed hdue hstays).head.trans hload⟩
  · rw [← hhead] at hin
    have hcheck : usableAtLoad u.rcs r = false := by rw [hrcs]; exact hunusable
    obtain ⟨hload, hraised⟩ := loadTracked_unusable r hin hcheck
    rw [← hinfeed, hrcs, loadedAs, hin, trackedJar_eq] at hload
    rw [← hinfeed, hp, hflt] at hraised
    have hstays := Or.inr (a := ((serveInfeed (infeedAt s) (readyToServe true caps s)).head (infeedAt s)).jar = none)
      (congrArg Head.state hload)
    refine ⟨(infeed_closed hdue hstays).1, ?_, entered_of_infeed hdue (by decide) (entered_raise _ _ hraised (by simp))⟩
    rw [(sameHead_after_infeed hdue hstays).head, hload]
    congr 3
  · rw [← hhead] at hin
    have hcheck : usableAtLoad u.rcs r = true := by rw [hrcs]; exact husable
    have hload := loadTracked_usable r hin hcheck
    rw [← hinfeed, hrcs, loadedAs, hin] at hload
    have hsame := sameHead_loaded (j := trackedJar s.rcs r .pending) hdue hleads hstart rfl (congrArg Head.jar hload)
      (congrArg Head.state hload)
    refine ⟨?_, ?_⟩
    · rw [hsame.valve, serveInfeed_valve]
    · rw [hsame.head, hload, trackedJar_eq]
      congr 3

/-! ### The exit (R47, R66, R80, R107, R108) -/

theorem removeOverdue_ofl_eq (t : State) : (removeOverdue t).ofl = keptAt t.ptk.p t.ofl := by
  rw [removeOverdue_ofl]
  refine List.filter_congr fun e _ => ?_
  simp only [overdue, ahead, Late, decide_not]

/-- A SETTLED head passes no point, nor does the head it stands for (R38). -/
theorem headTransitions_of_settled {t : State} {k : Fin 12} (h : (t.head k).state = .settled) : headTransitions k t = t := by
  have hopen : openPoint k t = t := by unfold openPoint; split <;> simp [h]
  have hclose : closePoint k t = t := by unfold closePoint; split <;> simp [h]
  have happly : applyPoint k t = t := by unfold applyPoint; split <;> simp [h]
  have htorque : torqueStartPoint k t = t := by unfold torqueStartPoint; split <;> simp [h]
  have hzone : torqueEndPoint k t = t := by unfold torqueEndPoint; split <;> simp [h]
  rw [headTransitions, hopen, hclose, happly, htorque, hzone]

/-- What the exit finds of its head: the head as the report found it, a TO_PITCH hold cleared (R80). -/
theorem sameHead_exit (eye : Bool) (caps : BitVec 12) (s : State) :
    SameHead (readyToServe eye caps s) (serveInfeed (infeedAt s) (readyToServe eye caps s)) (infeedAt s + 2) :=
  sameHead_serveInfeed (by simp [Fin.ext_iff]) _

/-- The state in which the exit is served. -/
def beforeExit (eye : Bool) (caps : BitVec 12) (s : State) : State :=
  serveInfeed (infeedAt s) (readyToServe eye caps s)

theorem beforeHeads_eq_exit (h : PitchDue s) :
    beforeHeads eye caps s = serveExit (infeedAt s + 2) (beforeExit eye caps s) := beforeHeads_pitch h.2

theorem beforeExit_head (eye : Bool) (caps : BitVec 12) (s : State) :
    (beforeExit eye caps s).head (infeedAt s + 2) = s.head (infeedAt s + 2) ∧
    (beforeExit eye caps s).spindle (infeedAt s + 2) = released (s.spindle (infeedAt s + 2)) := by
  obtain ⟨hhead, -, hspindle⟩ := sameHead_exit eye caps s
  rw [beforeExit, hhead, hspindle, readyToServe_head, readyToServe_spindle]
  exact ⟨rfl, rfl⟩

theorem beforeExit_blocks (eye : Bool) (caps : BitVec 12) (s : State) :
    (beforeExit eye caps s).ptk.p = s.ptk.p + 1 ∧ (beforeExit eye caps s).ofl = s.ofl ∧
    (beforeExit eye caps s).cfg = s.cfg := by
  simp [beforeExit, readyToServe_p, readyToServe_frame]

theorem exitHold_clearHold (h : ReleaseHold) : exitHold (clearHold h) = if h = .toLoad then .toLoad else .toPitch := by
  cases h <;> rfl

theorem clearHold_eq (h : ReleaseHold) : clearHold h = if h = .toLoad then .toLoad else .free := by cases h <;> rfl

/-- A jar at the exit leaves its head, and the exit hands it to the Outfeed Line (R47, R107). -/
theorem serveExit_of_settled {t : State} {k : Fin 12} {j : Jar} (hj : (t.head k).jar = some j)
    (hsettled : (t.head k).state = .settled) : serveExit k t = joinOutfeed j (removeOverdue (vacate k t)) := by
  simp only [serveExit, headTransitions_of_settled hsettled, hj]

theorem serveExit_of_none {t : State} {k : Fin 12} (hj : (t.head k).jar = none) :
    serveExit k t = removeOverdue t := by
  simp only [serveExit, headTransitions_of_none hj, hj]

/-- Settles O12: the overdue entries leave, then the jar of the head at the exit joins. -/
theorem exitToOutfeed : Obligations.ExitToOutfeed := by
  intro eye caps s k hdue hline hangle
  obtain rfl := (angle_eq_exit_iff hdue k).1 hangle
  obtain ⟨hhead, hspindle⟩ := beforeExit_head eye caps s
  obtain ⟨hp, hofl, hcfg⟩ := beforeExit_blocks eye caps s
  refine ⟨_, exec_forward hdue.1, fun j hj hsettled => ?_, fun hnone => ?_⟩ <;> rw [beforeHeads_eq_exit hdue]
  · rw [serveExit_of_settled (hhead ▸ hj) (hhead ▸ hsettled)]
    set u := removeOverdue (vacate (infeedAt s + 2) (beforeExit eye caps s)) with hu
    have hgone : ((joinOutfeed j u).head (infeedAt s + 2)) = { s.head (infeedAt s + 2) with state := .empty, jar := none } := by
      rw [head_congr (s := vacate (infeedAt s + 2) (beforeExit eye caps s)) (by simp [hu])]
      simp [vacate, hhead]
    obtain ⟨hhead', hvalve', hspindle'⟩ := allTransitions_of_none (congrArg Head.jar hgone)
    refine ⟨?_, hhead'.trans hgone, ?_, ?_, ?_⟩
    · rw [(allTransitions_frame _).2.2.2.2.1, joinOutfeed_ofl]
      have hkept : u.ofl = keptAt (s.ptk.p + 1) s.ofl := by simp [hu, removeOverdue_ofl_eq, hp, hofl]
      have hpitch : u.ptk.p = s.ptk.p + 1 := by simp [hu, hp]
      rw [hkept, hpitch, configWord_congr (s := s) (by simp [hu, hcfg])]
    · rw [hvalve', valve_congr (s := vacate (infeedAt s + 2) (beforeExit eye caps s)) (by simp [hu])]
      simp [vacate]
    · rw [State.accumulator, hhead', hgone]
    · rw [hspindle', spindle_congr (s := vacate (infeedAt s + 2) (beforeExit eye caps s)) (by simp [hu])]
      simp [vacate, hspindle, released, exitHold_clearHold]
  · rw [serveExit_of_none (hhead ▸ hnone)]
    have hempty : (removeOverdue (beforeExit eye caps s)).head (infeedAt s + 2) = s.head (infeedAt s + 2) :=
      (head_congr (by simp) _).trans hhead
    obtain ⟨hhead', -, hspindle'⟩ := allTransitions_of_none ((congrArg Head.jar hempty).trans hnone)
    refine ⟨?_, hhead'.trans hempty, ?_⟩
    · rw [(allTransitions_frame _).2.2.2.2.1, removeOverdue_ofl_eq, hp, hofl]
    · rw [hspindle', spindle_congr (s := beforeExit eye caps s) (by simp), hspindle, released, clearHold_eq]

end

end Sys2Proof.Machine
end

section
/-! Jars accounted for (R32, R47, R91, R92): the counts in flight against the jars on the heads and in the Outfeed Line, the
heads' states against their jars, and the words of the banks that have jars in flight (R35, R103). -/

namespace Sys2Proof.Machine

open Sys2Proof.Claims

/-! ### Heads that hold the same jars -/

/-- A head context further on with the same jar: its record and its tag are kept, and so is the match of state and jar. -/
structure Head.Alike (h h' : Head) : Prop where
  record : h'.jar.map Jar.record = h.jar.map Jar.record
  tagged : ∀ i, h'.holdsTagged i = h.holdsTagged i
  matched : (h.jar = none ↔ h.state = .empty) → (h'.jar = none ↔ h'.state = .empty)

theorem Head.Alike.refl (h : Head) : h.Alike h := ⟨rfl, fun _ => rfl, id⟩

theorem Head.Alike.trans {h h' h'' : Head} (ha : h.Alike h') (hb : h'.Alike h'') : h.Alike h'' :=
  ⟨hb.record.trans ha.record, fun i => (hb.tagged i).trans (ha.tagged i), fun hm => hb.matched (ha.matched hm)⟩

/-- A jar whose record and tag are kept, on a head that does not become EMPTY. -/
theorem Head.alike_of_jar {h h' : Head} {j j' : Jar} (hj : h.jar = some j) (hj' : h'.jar = some j')
    (hrecord : j'.record = j.record) (htracked : j'.tracked = j.tracked) (htag : j'.tag = j.tag)
    (hstate : h.state ≠ .empty → h'.state ≠ .empty) : h.Alike h' where
  record := by simp [hj, hj', hrecord]
  tagged i := by simp [hj, hj', taggedWith, htracked, htag]
  matched hm := by simp_all

theorem Head.alike_of_same {h h' : Head} (hj : h'.jar = h.jar) (hstate : h'.state = h.state) : h.Alike h' where
  record := by rw [hj]
  tagged i := by simp only [Head.holdsTagged, hj]
  matched hm := by rw [hj, hstate]; exact hm

/-- Every head of two states is alike. -/
def AlikeHeads (s t : State) : Prop := ∀ k, (s.head k).Alike (t.head k)

section
variable {s t u : State} {k : Fin 12}

theorem AlikeHeads.refl (s : State) : AlikeHeads s s := fun k => Head.Alike.refl (s.head k)

theorem AlikeHeads.trans (h : AlikeHeads s t) (h' : AlikeHeads t u) : AlikeHeads s u := fun k => (h k).trans (h' k)

theorem alikeHeads_of_heads (h : t.heads = s.heads) : AlikeHeads s t := fun k => by
  rw [head_congr h]
  exact Head.Alike.refl _

theorem alikeHeads_of_others (hk : (s.head k).Alike (t.head k)) (hothers : ∀ l, l ≠ k → t.head l = s.head l) :
    AlikeHeads s t := fun l => by
  by_cases hl : l = k
  · exact hl ▸ hk
  · rw [hothers l hl]
    exact Head.Alike.refl _

theorem alikeHeads_setHead {h : Head} (hk : (s.head k).Alike h) : AlikeHeads s (s.setHead k h) :=
  alikeHeads_of_others (by rwa [head_setHead_same]) fun l hl => head_setHead_ne s h (Ne.symm hl)

theorem headsTagged_alike (h : AlikeHeads s t) (i : BankId) : headsTagged t i = headsTagged s i := by
  simp only [headsTagged_eq_countP, (h _).tagged i]

/-! ### The operations that leave the jars where they are -/

theorem alikeHeads_headTransitions (k : Fin 12) (s : State) : AlikeHeads s (headTransitions k s) := by
  cases hj : (s.head k).jar with
  | none => rw [headTransitions_of_none hj]; exact AlikeHeads.refl s
  | some j =>
    have hshows : ShowsOn s k (stageOf s k j) ⟨(s.head k).state, j, s.valve k, s.spindle k⟩ :=
      ⟨⟨rfl, hj, rfl, rfl⟩, rfl, rfl, rfl, rfl, rfl⟩
    obtain ⟨⟨htag, htracked, hrecord, hholds⟩, ⟨⟨hstate, hjar, -, -⟩, -⟩⟩ := showsOn_headTransitions hshows
    refine alikeHeads_of_others (Head.alike_of_jar hj hjar hrecord htracked htag fun hne => ?_)
      fun l hl => (sameHead_headTransitions (Ne.symm hl) s).head
    rw [hstate]
    exact fun hempty => hne (hholds.1 hempty)

theorem alikeHeads_foldl {op : Fin 12 → State → State} (h : ∀ k t, AlikeHeads t (op k t)) (ks : List (Fin 12)) (s : State) :
    AlikeHeads s (ks.foldl (fun t k => op k t) s) :=
  List.foldlRecOn ks (fun t k => op k t) (motive := AlikeHeads s) (AlikeHeads.refl s) fun t ht k _ => ht.trans (h k t)

theorem alikeHeads_allTransitions (s : State) : AlikeHeads s (allTransitions s) :=
  alikeHeads_foldl alikeHeads_headTransitions allHeads s

theorem alikeHeads_flushHead (k : Fin 12) (s : State) : AlikeHeads s (flushHead k s) := by
  unfold flushHead
  split
  next j hj =>
    split
    next hopen =>
      dsimp only
      split
      · refine (alikeHeads_setHead (Head.alike_of_jar (j' := { j with
          flushAccrued := accrue (s.rcs.jarField j .flushTime) j.flushAccrued, flushResult := .full })
          hj rfl rfl rfl rfl ?_)).trans (alikeHeads_of_heads rfl)
        simp
      · exact alikeHeads_setHead (Head.alike_of_jar hj rfl rfl rfl rfl id)
    next => exact AlikeHeads.refl s
  next => exact AlikeHeads.refl s

theorem alikeHeads_flushTick (s : State) : AlikeHeads s (flushTick s) := by
  unfold flushTick
  split
  · exact alikeHeads_foldl alikeHeads_flushHead allHeads s
  split
  · exact alikeHeads_of_heads (by simp)
  · exact AlikeHeads.refl s

theorem alike_reportedHead (angle : Nat) (h : Head) : h.Alike (reportedHead angle h) := by
  cases hj : h.jar with
  | none => exact Head.alike_of_same (by simp [reportedHead, hj]) (by simp [reportedHead, hj])
  | some j =>
    obtain ⟨htag, htracked⟩ := reportedJar_sameTag h.state angle j
    have hrecord : (reportedJar h.state angle j).record = j.record := by unfold reportedJar; split <;> rfl
    refine Head.alike_of_jar hj (by simp [reportedHead, hj]) hrecord htracked htag fun hne => ?_
    simp only [reportedHead, hj]
    split
    · simp
    · exact hne

theorem alike_countJarMiss (h : Head) : h.Alike (countJarMiss h) := by
  cases hj : h.jar with
  | none => exact Head.alike_of_same (by simp [countJarMiss, hj]) (by simp [countJarMiss, hj])
  | some j =>
    exact Head.alike_of_jar (j' := { j with missed := min (j.missed + 1) 65535 }) hj (by simp [countJarMiss, hj]) rfl rfl rfl
      (by simp [countJarMiss, hj])

theorem alikeHeads_outOfServiceReport (k : Fin 12) (s : State) : AlikeHeads s (outOfServiceReport k s) :=
  (alikeHeads_setHead (alike_reportedHead (s.spindle k).lastAngle (s.head k))).trans (alikeHeads_of_heads rfl)

theorem alikeHeads_judgeReply {j : Jar} (hj : (s.head k).jar = some j) (torque angle : Nat) :
    AlikeHeads s (judgeReply k j torque angle s) := by
  have hsettle (j' : Jar) (c : Closure) (t : State) (ht : t.heads = s.heads) (hrecord : j'.record = j.record)
      (htracked : j'.tracked = j.tracked) (htag : j'.tag = j.tag) : AlikeHeads s (settleHead k j' c t) :=
    (alikeHeads_of_heads ht).trans (alikeHeads_setHead
      (Head.alike_of_jar ((congrArg Head.jar (head_congr ht k)).trans hj) rfl hrecord htracked htag (by simp)))
  have hmeasured : AlikeHeads s (s.setHead k { s.head k with jar := some { j with maxTorque := max j.maxTorque torque } }) :=
    alikeHeads_setHead (Head.alike_of_jar hj rfl rfl rfl rfl id)
  unfold judgeReply settleBySpindle
  dsimp only
  split
  · exact hsettle _ _ s rfl rfl rfl rfl
  split
  · exact hsettle _ _ s rfl rfl rfl rfl
  split
  · split
    · exact hsettle _ _ _ (by simp) rfl rfl rfl
    · exact hmeasured.trans (alikeHeads_of_heads rfl)
  · exact hmeasured.trans (alikeHeads_of_heads rfl)

theorem alikeHeads_takeSlot (k : Fin 12) (o : SlotOutcome) (s : State) : AlikeHeads s (takeSlot k o s) := by
  cases o with
  | okReply torque angle =>
    unfold takeSlot takeOkReply
    dsimp only
    split
    next j _ hj =>
      split
      · exact alikeHeads_judgeReply (s := (s.setSpindle k _).setSpindle k _) hj torque angle
      · exact AlikeHeads.refl s
    next => exact AlikeHeads.refl s
  | faultReply => exact alikeHeads_outOfServiceReport k ((s.raise .headDriveFault (headByte k)).setSpindle k _)
  | missed =>
    unfold takeSlot takeMiss
    dsimp only
    split
    · have hcounted := alikeHeads_setHead (s := s) (k := k) (alike_countJarMiss (s.head k))
      split
      · exact hcounted.trans (alikeHeads_outOfServiceReport k ((((s.setSpindle k _).setHead k _).raise .headLinkLost _)))
      · exact hcounted
    · exact AlikeHeads.refl s

end

/-! ### The counts in flight -/

/-- Each bank counts the jars tagged with it on the heads, in the Outfeed Line and in x others, and a bank is RETIRING exactly
while it is not LIVE and counts a jar (R91, R92). -/
def Accounted (x : BankId → Nat) (s : State) : Prop :=
  (∀ i, headsTagged s i + entriesTagged s i + x i = (s.rcs.bank i).inFlight) ∧
    (s.rcs.retiring = true ↔ 0 < (s.rcs.bank s.rcs.live.other).inFlight)

/-- A jar counted for its bank. -/
def countOf (j : Jar) (i : BankId) : Nat := if taggedWith i j then 1 else 0

section
variable {s t : State} {x y : BankId → Nat} {j : Jar}

theorem accounted_iff (s : State) : Accounted (fun _ => 0) s ↔ CountsMatchJars s :=
  and_congr_left fun _ => forall_congr' fun _ => eq_comm

theorem Accounted.congr (h : Accounted x s) (hheads : AlikeHeads s t) (hrcs : t.rcs = s.rcs) (hofl : t.ofl = s.ofl) :
    Accounted x t := by
  obtain ⟨hcounted, hretiring⟩ := h
  refine ⟨fun i => ?_, by rw [hrcs]; exact hretiring⟩
  rw [headsTagged_alike hheads, entriesTagged, hrcs, hofl]
  exact hcounted i

/-- The counts of the heads and of the line may differ where the rest makes up for it. -/
theorem Accounted.exchange (h : Accounted x s) (hrcs : t.rcs = s.rcs)
    (hsame : ∀ i, headsTagged t i + entriesTagged t i + y i = headsTagged s i + entriesTagged s i + x i) :
    Accounted y t := by
  obtain ⟨hcounted, hretiring⟩ := h
  exact ⟨fun i => by rw [hsame, hrcs]; exact hcounted i, by rw [hrcs]; exact hretiring⟩

theorem Accounted.setRcs (h : Accounted x s) {r : Rcs}
    (hcount : ∀ i, (r.bank i).inFlight + x i = (s.rcs.bank i).inFlight + y i)
    (hretiring : r.retiring = true ↔ 0 < (r.bank r.live.other).inFlight) : Accounted y (s.setRcs r) := by
  obtain ⟨hcounted, -⟩ := h
  refine ⟨fun i => ?_, hretiring⟩
  have hold := hcounted i
  have hnew := hcount i
  change headsTagged s i + entriesTagged s i + y i = (r.bank i).inFlight
  omega

/-- A load counts its jar in the LIVE bank (R92). -/
theorem accounted_countUp (h : Accounted x s) :
    Accounted (fun i => x i + if i = s.rcs.live then 1 else 0) (s.setRcs (s.rcs.countUp s.rcs.live)) := by
  obtain ⟨hlive, hretiring, -, -, hinFlight⟩ := countUp_eq s.rcs s.rcs.live
  refine h.setRcs (fun i => ?_) ?_
  · rw [hinFlight]
    omega
  · rw [hretiring, hlive, hinFlight, if_neg (other_ne _)]
    exact h.2

/-- A release takes a jar out of its bank's count; the last one of a RETIRING bank ends its retirement (R92, R101). -/
theorem accounted_countDown {i : BankId} (h : Accounted (fun l => x l + if l = i then 1 else 0) s) :
    Accounted x (s.setRcs (s.rcs.countDown i)) := by
  obtain ⟨hcounted, hretiring⟩ := id h
  have hpositive : 1 ≤ (s.rcs.bank i).inFlight := by
    have hi := hcounted i
    simp only [if_true] at hi
    omega
  have hfewer (l : BankId) : ((s.rcs.setBank i ⟨(s.rcs.bank i).words, (s.rcs.bank i).inFlight - 1⟩).bank l).inFlight +
      (x l + if l = i then 1 else 0) = (s.rcs.bank l).inFlight + x l := by
    rw [bank_setBank]
    split
    next hl =>
      subst hl
      dsimp only
      omega
    next => omega
  obtain ⟨hrole, hlast, hdown⟩ | ⟨hnot, hdown⟩ := countDown_cases s.rcs i <;> rw [hdown]
  · have hother : s.rcs.live.other = i := by
      obtain hlive | hother := eq_or_eq_other i s.rcs.live
      · simp [Rcs.role, hlive] at hrole
      · exact hother.symm
    obtain ⟨hlive, hret, -, hspare, -⟩ := refill_eq (s.rcs.setBank i ⟨(s.rcs.bank i).words, (s.rcs.bank i).inFlight - 1⟩)
    refine h.setRcs (fun l => by rw [refill_inFlight]; exact hfewer l) ?_
    rw [setBank_live, hother] at hspare
    rw [hret, hlive, setBank_live, hother, hspare, bank_setBank_same]
    simp only [Bool.false_eq_true, false_iff, Nat.not_lt]
    omega
  · refine h.setRcs hfewer ?_
    rw [setBank_retiring, setBank_live, bank_setBank]
    split
    next hother =>
      have hret : s.rcs.retiring = true := hretiring.2 (hother ▸ hpositive)
      have hrole : s.rcs.role i = .retiring := by simp [Rcs.role, ← hother, hret]
      have htwo : ¬(s.rcs.bank i).inFlight ≤ 1 := fun hle => hnot ⟨hrole, hle⟩
      simp only [hret, true_iff]
      omega
    next => exact hretiring

/-- What the Recipe Store does at a removal (R109). -/
def Rcs.release (r : Rcs) (j : Jar) : Rcs :=
  if j.tracked then
    match j.tag with
    | some i => r.countDown i
    | none => r
  else r

theorem passOn_rcs (j : Jar) (m : Option Int) (s : State) : (passOn j m s).rcs = s.rcs.release j := by
  have hrcs : (completeJar j m s).rcs = s.rcs := by simp
  unfold passOn releaseTag Rcs.release
  split
  · cases j.tag with
    | some i => rw [State.setRcs_rcs, hrcs]
    | none => exact hrcs
  · exact hrcs

theorem release_of_tagged (r : Rcs) {i : BankId} (h : taggedWith i j = true) : r.release j = r.countDown i := by
  obtain ⟨htracked, htag⟩ := (taggedWith_iff i j).1 h
  simp [Rcs.release, htracked, htag]

theorem release_of_untagged (r : Rcs) (h : ∀ i, taggedWith i j = false) : r.release j = r := by
  unfold Rcs.release
  split
  next htracked =>
    split
    next i htag => exact absurd ((taggedWith_iff i j).2 ⟨htracked, htag⟩) (by simp [h i])
    next => rfl
  next => rfl

/-- A jar is counted in one bank, or in none. -/
theorem countOf_cases (j : Jar) : (∃ i, taggedWith i j = true ∧ countOf j = fun l => if l = i then 1 else 0) ∨
    ((∀ i, taggedWith i j = false) ∧ countOf j = fun _ => 0) := by
  by_cases h : ∃ i, taggedWith i j = true
  · obtain ⟨i, hi⟩ := h
    refine .inl ⟨i, hi, funext fun l => ?_⟩
    obtain ⟨htracked, htag⟩ := (taggedWith_iff i j).1 hi
    have hbank : taggedWith l j = true ↔ l = i := by
      rw [taggedWith_iff, htag, Option.some_inj]
      exact ⟨fun h => h.2.symm, fun h => ⟨htracked, h.symm⟩⟩
    simp only [countOf, hbank]
  · simp only [not_exists, Bool.not_eq_true] at h
    exact .inr ⟨h, funext fun l => by simp [countOf, h l]⟩

/-- A jar in hand that is passed on is counted no more (R92, R109). -/
theorem accounted_passOn (m : Option Int) (h : Accounted (fun i => x i + countOf j i) s) : Accounted x (passOn j m s) := by
  have hofl := passOn_ofl j m s
  have hheads : AlikeHeads s (passOn j m s) := alikeHeads_of_heads (by simp)
  have hreleased : Accounted x (s.setRcs (s.rcs.release j)) := by
    obtain ⟨i, hi, hcount⟩ | ⟨hnone, hcount⟩ := countOf_cases j
    · rw [release_of_tagged _ hi]
      exact accounted_countDown (by rwa [hcount] at h)
    · rw [release_of_untagged _ hnone]
      rw [hcount] at h
      exact h
  exact hreleased.congr (fun k => hheads k) (passOn_rcs j m s) hofl

/-- Jars in hand, counted. -/
def countOfAll (js : List OutfeedEntry) (i : BankId) : Nat := js.countP (fun e => taggedWith i e.jar)

theorem accounted_foldl_passOn (es : List OutfeedEntry) (h : Accounted (fun i => x i + countOfAll es i) s) :
    Accounted x (es.foldl (fun t e => passOn e.jar none t) s) := by
  induction es generalizing s with
  | nil => simpa [countOfAll] using h
  | cons e es ih =>
    refine ih (accounted_passOn (j := e.jar) none ?_)
    have hcount (i : BankId) : countOfAll (e :: es) i = countOfAll es i + countOf e.jar i := List.countP_cons
    simp only [hcount, ← Nat.add_assoc] at h
    exact h

theorem accounted_removeOverdue (h : Accounted x s) : Accounted x (removeOverdue s) := by
  refine accounted_foldl_passOn _ (h.exchange (t := s.setOfl _) rfl fun i => ?_)
  have hparts := (List.filter_append_perm (overdue s.ptk.p) s.ofl).countP_eq (fun e => taggedWith i e.jar)
  rw [List.countP_append] at hparts
  simp only [headsTagged_congr (s := s) (State.setOfl_heads s _), entriesTagged, State.setOfl_ofl, countOfAll, ← hparts]
  omega

theorem accounted_makeRoom (h : Accounted x s) : Accounted x (makeRoom s) := by
  unfold makeRoom
  split
  next e rest hline =>
    split
    · refine accounted_passOn none (h.exchange (t := s.setOfl rest) rfl fun i => ?_)
      simp only [headsTagged_congr (s := s) (State.setOfl_heads s _), entriesTagged, State.setOfl_ofl, hline,
        List.countP_cons, countOf]
      omega
    · exact h
  next => exact h

/-- A jar in hand that joins the line is counted there (R106). -/
theorem accounted_joinOutfeed (h : Accounted (fun i => x i + countOf j i) s) : Accounted x (joinOutfeed j s) := by
  refine (accounted_makeRoom h).exchange rfl fun i => ?_
  simp only [joinOutfeed, headsTagged_congr (s := makeRoom s) (State.setOfl_heads _ _), entriesTagged,
    State.setOfl_ofl, List.countP_append, List.countP_singleton, countOf]
  omega

/-- A head that changes keeps the account when what it held and what it holds are counted (R92). -/
theorem Accounted.of_others {k : Fin 12} (h : Accounted x s) (hothers : ∀ l, l ≠ k → t.head l = s.head l)
    (hrcs : t.rcs = s.rcs) (hofl : t.ofl = s.ofl)
    (hcount : ∀ i, y i + (if (t.head k).holdsTagged i then 1 else 0) = x i + if (s.head k).holdsTagged i then 1 else 0) :
    Accounted y t := by
  refine h.exchange hrcs fun i => ?_
  have hheads := headsTagged_of_others hothers i
  have hk := hcount i
  simp only [entriesTagged, hofl]
  omega

/-- The exit takes its head's jar in hand (R47). -/
theorem accounted_vacate {k : Fin 12} (hj : (s.head k).jar = some j) (h : Accounted x s) :
    Accounted (fun i => x i + countOf j i) (vacate k s) := by
  refine h.of_others (k := k) (fun l hl => by simp [vacate, head_setHead_ne s _ (Ne.symm hl)]) (by simp) (by simp) fun i => ?_
  have hgone : ((vacate k s).head k).jar = none := by simp [vacate]
  simp [Head.holdsTagged_of_none hgone, Head.holdsTagged_of_jar hj, countOf]

/-- The exit keeps the account. -/
theorem accounted_serveExit (k : Fin 12) (h : Accounted x s) : Accounted x (serveExit k s) := by
  have hpassed := h.congr (alikeHeads_headTransitions k s) (by simp) (by simp)
  unfold serveExit
  dsimp only
  split
  next j hj => exact accounted_joinOutfeed (accounted_removeOverdue (accounted_vacate hj hpassed))
  next => exact accounted_removeOverdue hpassed

/-- A jar counted for the head that held it, when the infeed loads over it. -/
def heldCount (h : Head) (i : BankId) : Nat := if h.holdsTagged i then 1 else 0

theorem loadTracked_head (k : Fin 12) (r : JarRecord) (s : State) : ∃ st c,
    (st = .settled ∨ st = .loaded ∧ usableAtLoad s.rcs r = true) ∧
    (loadTracked k r s).head k = loadedAs (s.head k) st (some (trackedJar s.rcs r c)) := by
  cases hservice : serviceAtLoad (s.head k) with
  | outOfService => exact ⟨_, _, .inl rfl, loadTracked_out r hservice⟩
  | inService =>
    cases husable : usableAtLoad s.rcs r with
    | true => exact ⟨_, _, .inr ⟨rfl, rfl⟩, loadTracked_usable r hservice husable⟩
    | false => exact ⟨_, _, .inl rfl, (loadTracked_unusable r hservice husable).1⟩

/-- What the infeed leaves on its head: a tracked jar counted in the LIVE bank, an untracked jar, or none (R34). -/
theorem serveInfeed_head (k : Fin 12) (s : State) :
    ((serveInfeed k s).rcs = s.rcs.countUp s.rcs.live ∧ ∃ r ∈ s.ifq, ∃ st c,
      (st = .settled ∨ st = .loaded ∧ usableAtLoad s.rcs r = true) ∧
      (serveInfeed k s).head k = loadedAs (s.head k) st (some (trackedJar s.rcs r c))) ∨
    ((serveInfeed k s).rcs = s.rcs ∧ ((serveInfeed k s).head k = loadedAs (s.head k) .empty none ∨
      (serveInfeed k s).head k = loadedAs (s.head k) .settled
        (some (newJar (strayRecord s.ptk.p) false none false none .untracked)))) := by
  unfold serveInfeed
  split
  next r hlevel _ =>
    obtain ⟨rest, hqueue, -⟩ := oldestLevel_eq_some.1 hlevel
    obtain ⟨st, c, hst, hhead⟩ := loadTracked_head k r (s.setIfq s.ifq.tail)
    exact .inl ⟨loadTracked_rcs k r _, r, hqueue ▸ List.mem_cons_self, st, c, hst, hhead⟩
  · exact .inr ⟨by simp, .inl (by rw [loadNothing_head]; rfl)⟩
  · refine .inr ⟨by split <;> simp, .inr ?_⟩
    rw [loadUntracked_head]
    split <;> rfl
  · exact .inr ⟨by simp, .inl (loadNothing_head k s)⟩

/-- The infeed counts the jar it loads; one that it loads over stays counted, on no head (R92). -/
theorem accounted_serveInfeed (k : Fin 12) (h : Accounted x s) :
    Accounted (fun i => x i + heldCount (s.head k) i) (serveInfeed k s) := by
  have hothers (l : Fin 12) (hl : l ≠ k) : (serveInfeed k s).head l = s.head l := (sameHead_serveInfeed (Ne.symm hl) s).head
  obtain ⟨hrcs, r, -, st, c, -, hhead⟩ | ⟨hrcs, hhead⟩ := serveInfeed_head k s
  · refine (accounted_countUp h).of_others hothers hrcs (by simp) fun i => ?_
    have htagged : ((serveInfeed k s).head k).holdsTagged i = true ↔ i = s.rcs.live := by
      rw [hhead, Head.holdsTagged_of_jar rfl, taggedWith_iff]
      simp [trackedJar, newJar, eq_comm]
    rw [if_congr htagged rfl rfl, Nat.add_right_comm]
    rfl
  · refine h.of_others hothers hrcs (by simp) fun i => ?_
    have huntagged : ((serveInfeed k s).head k).holdsTagged i = false := by
      obtain hnone | hstray := hhead
      · rw [hnone]; rfl
      · rw [hstray]; rfl
    simp only [huntagged, heldCount]
    simp

/-! ### States and jars (R32), places of jars (R47) -/

theorem AlikeHeads.jarsMatch (h : AlikeHeads s t) (hs : JarsMatchStates s) : JarsMatchStates t :=
  fun k => (h k).matched (hs k)

theorem AlikeHeads.jar_ne_none (h : AlikeHeads s t) {k : Fin 12} (hj : (t.head k).jar ≠ none) : (s.head k).jar ≠ none := by
  intro hnone
  have hrecord := (h k).record
  rw [hnone, Option.map_none, Option.map_eq_none_iff] at hrecord
  exact hj hrecord

theorem jarsMatch_serveInfeed (k : Fin 12) (hs : JarsMatchStates s) : JarsMatchStates (serveInfeed k s) := by
  intro l
  by_cases hl : k = l
  · subst hl
    obtain ⟨-, r, -, st, c, hst, hhead⟩ | ⟨-, hhead | hhead⟩ := serveInfeed_head k s <;> rw [hhead]
    · obtain rfl | ⟨rfl, -⟩ := hst <;> simp [loadedAs]
    · simp [loadedAs]
    · simp [loadedAs]
  · rw [(sameHead_serveInfeed hl s).head]
    exact hs l

theorem jarsMatch_vacate (k : Fin 12) (hs : JarsMatchStates s) : JarsMatchStates (vacate k s) := by
  intro l
  by_cases hl : k = l
  · subst hl
    simp [vacate]
  · rw [(sameHead_vacate hl s).head]
    exact hs l

theorem jarsMatch_serveExit (k : Fin 12) (hs : JarsMatchStates s) : JarsMatchStates (serveExit k s) := by
  have hpassed := (alikeHeads_headTransitions k s).jarsMatch hs
  unfold serveExit
  dsimp only
  split
  · exact (alikeHeads_of_heads (by simp)).jarsMatch (jarsMatch_vacate k hpassed)
  · exact (alikeHeads_of_heads (by simp)).jarsMatch hpassed

/-- The exit leaves no jar on its head (R47). -/
theorem serveExit_jar (k : Fin 12) (s : State) : ((serveExit k s).head k).jar = none := by
  unfold serveExit
  dsimp only
  split
  · rw [head_congr (s := vacate k (headTransitions k s)) (by simp)]
    simp [vacate]
  next hj => rwa [head_congr (s := headTransitions k s) (by simp)]

/-! ### The invariant -/

/-- Jars, states, counts and places are in step (R32, R47, R91, R92). -/
structure JarsSound (s : State) : Prop where
  matched : JarsMatchStates s
  accounted : Accounted (fun _ => 0) s
  places : JarsBeforeExit s

theorem jarsSound_iff (s : State) : JarsSound s ↔ JarsMatchStates s ∧ CountsMatchJars s ∧ JarsBeforeExit s :=
  ⟨fun ⟨hmatched, haccounted, hplaces⟩ => ⟨hmatched, (accounted_iff s).1 haccounted, hplaces⟩,
    fun ⟨hmatched, hcounts, hplaces⟩ => ⟨hmatched, (accounted_iff s).2 hcounts, hplaces⟩⟩

theorem angle_of_counts (hturret : t.ptk.turret = s.ptk.turret) (hbacklog : t.ptk.backlog = s.ptk.backlog) (k : Fin 12) :
    t.angle k = s.angle k :=
  angle_eq_of_highWater_eq (by simp only [State.highWater, hturret, hbacklog]) k

/-- The counts may change while the angles and what holds the jars stay. -/
theorem JarsSound.turned (h : JarsSound s) (hturret : t.ptk.turret < 3600) (hbacklog : t.ptk.backlog < 3600)
    (hangle : ∀ k, t.angle k = s.angle k) (hheads : AlikeHeads s t) (hrcs : t.rcs = s.rcs) (hofl : t.ofl = s.ofl) :
    JarsSound t := by
  obtain ⟨hmatched, haccounted, -, -, hplaces⟩ := h
  refine ⟨hheads.jarsMatch hmatched, haccounted.congr hheads hrcs hofl, hturret, hbacklog, fun k hj => ?_⟩
  rw [hangle]
  exact hplaces k (hheads.jar_ne_none hj)

theorem JarsSound.congr (h : JarsSound s) (hturret : t.ptk.turret = s.ptk.turret) (hbacklog : t.ptk.backlog = s.ptk.backlog)
    (hheads : AlikeHeads s t) (hrcs : t.rcs = s.rcs) (hofl : t.ofl = s.ofl) : JarsSound t :=
  h.turned (hturret ▸ h.places.1) (hbacklog ▸ h.places.2.1) (angle_of_counts hturret hbacklog) hheads hrcs hofl

theorem JarsSound.setRcs (h : JarsSound s) {r : Rcs} (hcount : ∀ i, (r.bank i).inFlight = (s.rcs.bank i).inFlight)
    (hretiring : r.retiring = true ↔ 0 < (r.bank r.live.other).inFlight) : JarsSound (s.setRcs r) := by
  obtain ⟨hmatched, haccounted, hplaces⟩ := h
  exact ⟨hmatched, haccounted.setRcs (fun i => by rw [hcount i]) hretiring, hplaces⟩

/-! ### A turret advance -/

section
variable {eye : Bool} {caps : BitVec 12}

/-- A head at the end of its zone reaches the exit at a pitch event (R2, R3). -/
theorem pitch_of_exit (h : AtFront s) {k : Fin 12} (hk : s.angle k = 2999) : nextCount s % 300 = 0 := by
  rw [angle_atFront h] at hk
  unfold nextCount
  have := h.1
  split <;> omega

theorem jarsSound_pitch (h : PitchDue s) (hs : JarsSound s) :
    JarsMatchStates (beforeHeads eye caps s) ∧ Accounted (fun _ => 0) (beforeHeads eye caps s) ∧
    ∀ k, ((beforeHeads eye caps s).head k).jar ≠ none → (beforeHeads eye caps s).angle k < 3000 := by
  obtain ⟨hmatched, haccounted, -, -, hplaces⟩ := hs
  obtain ⟨-, hheads, -, hrcs, hofl, -⟩ := readyToServe_frame eye caps s
  have hready : AlikeHeads s (readyToServe eye caps s) := alikeHeads_of_heads hheads
  -- the head at the infeed is EMPTY, so no jar is loaded over
  have hempty : ((readyToServe eye caps s).head (infeedAt s)).jar = none := by
    by_contra hj
    have hplace := hplaces _ (hready.jar_ne_none hj)
    rw [(angle_eq_infeed_iff h _).2 rfl] at hplace
    omega
  have hcount : heldCount ((readyToServe eye caps s).head (infeedAt s)) = fun _ => 0 :=
    funext fun i => by simp [heldCount, Head.holdsTagged_of_none hempty]
  have hloaded := accounted_serveInfeed (infeedAt s) (haccounted.congr hready hrcs hofl)
  simp only [hcount, Nat.add_zero] at hloaded
  have hleft := jarsMatch_serveExit (infeedAt s + 2) (jarsMatch_serveInfeed (infeedAt s) (hready.jarsMatch hmatched))
  refine ⟨by rwa [beforeHeads_pitch h.2], by rw [beforeHeads_pitch h.2]; exact accounted_serveExit _ hloaded, fun k hj => ?_⟩
  rw [beforeHeads_angle_succ h.1]
  by_cases hinfeed : s.angle k = 3599
  · omega
  by_cases hexit : s.angle k = 2999
  · rw [(angle_eq_exit_iff h k).1 hexit, beforeHeads_pitch h.2, serveExit_jar] at hj
    exact absurd rfl hj
  · rw [(beforeHeads_head h.1 hinfeed hexit).1] at hj
    have := hplaces k hj
    omega

theorem jarsSound_between (h : AtFront s) (hbetween : nextCount s % 300 ≠ 0) (hs : JarsSound s) :
    JarsMatchStates (beforeHeads eye caps s) ∧ Accounted (fun _ => 0) (beforeHeads eye caps s) ∧
    ∀ k, ((beforeHeads eye caps s).head k).jar ≠ none → (beforeHeads eye caps s).angle k < 3000 := by
  obtain ⟨hmatched, haccounted, -, -, hplaces⟩ := hs
  have halike : AlikeHeads s (beforePitch eye caps s) := alikeHeads_of_heads (by simp)
  refine ⟨by rw [beforeHeads_between hbetween]; exact halike.jarsMatch hmatched,
    by rw [beforeHeads_between hbetween]; exact haccounted.congr halike (by simp) (by simp), fun k hj => ?_⟩
  rw [beforeHeads_between hbetween] at hj
  have hplace := hplaces k (halike.jar_ne_none hj)
  have hexit : s.angle k ≠ 2999 := fun hk => hbetween (pitch_of_exit h hk)
  rw [beforeHeads_angle_succ h]
  omega

theorem jarsSound_advance (h : AtFront s) (hs : JarsSound s) : JarsSound (allTransitions (beforeHeads eye caps s)) := by
  have hbefore : JarsMatchStates (beforeHeads eye caps s) ∧ Accounted (fun _ => 0) (beforeHeads eye caps s) ∧
      ∀ k, ((beforeHeads eye caps s).head k).jar ≠ none → (beforeHeads eye caps s).angle k < 3000 := by
    by_cases hpitch : nextCount s % 300 = 0
    · exact jarsSound_pitch ⟨h, hpitch⟩ hs
    · exact jarsSound_between h hpitch hs
  obtain ⟨hmatched, haccounted, hplaces⟩ := hbefore
  obtain ⟨hturret, hbacklog⟩ := beforeHeads_counts eye caps s
  have hsound : JarsSound (beforeHeads eye caps s) := ⟨hmatched, haccounted, by rw [hturret]; exact nextCount_lt h,
    by rw [hbacklog, h.2]; decide, hplaces⟩
  exact hsound.congr (by simp) (by simp) (alikeHeads_allTransitions _) (by simp) (by simp)

end

/-- A report that is no advance moves the counts and leaves the angles (R1, R2). -/
theorem jarsSound_report (d : Direction) (eye : Bool) (caps : BitVec 12) (hs : JarsSound s)
    (hexec : exec (.encoderReport d eye caps) s = .next t) : JarsSound t := by
  have hsensed : JarsSound (senseTurret eye caps s) := hs.congr rfl rfl (AlikeHeads.refl s) rfl rfl
  obtain ⟨hturret, hbacklog, -⟩ := hsensed.places
  have hturned (p : Ptk) (hp : p.turret < 3600) (hb : p.backlog < 3600)
      (hwater : ((senseTurret eye caps s).setPtk p).highWater = (senseTurret eye caps s).highWater) :
      JarsSound ((senseTurret eye caps s).setPtk p) :=
    hsensed.turned hp hb (angle_eq_of_highWater_eq hwater) (AlikeHeads.refl _) rfl rfl
  have ht : t = encoderReport d (senseTurret eye caps s) := (Host.Outcome.next.inj hexec).symm
  cases d with
  | backward =>
    by_cases hroom : (senseTurret eye caps s).ptk.backlog < 3599
    · have hwater := highWater_backward hturret hroom
      rw [encoderReport_backward hturret hroom] at ht hwater
      rw [ht]
      refine hturned _ ?_ (Nat.succ_lt_succ hroom) hwater
      dsimp only
      split <;> omega
    · rw [ht, encoderReport_backward_full (by omega)]
      exact hsensed
  | forward =>
    by_cases hfront : s.ptk.backlog = 0
    · have hadvance : AtFront s := ⟨hs.places.1, hfront⟩
      rw [exec_forward hadvance] at hexec
      rw [← Host.Outcome.next.inj hexec]
      exact jarsSound_advance hadvance hs
    · have hbehind : 1 ≤ (senseTurret eye caps s).ptk.backlog := Nat.one_le_iff_ne_zero.2 hfront
      have hwater := highWater_forward_behind hturret hbehind
      rw [encoderReport_forward_behind hturret hbehind] at ht hwater
      rw [ht]
      refine hturned _ ?_ ?_ hwater
      · exact nextCount_lt_of_turret hturret
      · dsimp only
        omega

/-! ### A measurement -/

theorem jarsSound_passOn {e : OutfeedEntry} {rest : List OutfeedEntry} (m : Option Int) (hs : JarsSound s)
    (hline : s.ofl = e :: rest) : JarsSound (passOn e.jar m (s.setOfl rest)) := by
  obtain ⟨hmatched, haccounted, hplaces⟩ := hs
  have hheads : AlikeHeads s (passOn e.jar m (s.setOfl rest)) := alikeHeads_of_heads (by simp)
  have hptk : (passOn e.jar m (s.setOfl rest)).ptk = s.ptk := by simp
  refine ⟨hheads.jarsMatch hmatched, accounted_passOn m (haccounted.exchange rfl fun i => ?_), ?_⟩
  · simp only [headsTagged_congr (s := s) (State.setOfl_heads s _), entriesTagged, State.setOfl_ofl, hline,
      List.countP_cons, countOf]
    omega
  · rw [JarsBeforeExit, hptk]
    exact ⟨hplaces.1, hplaces.2.1, fun k hj => by rw [angle_congr hptk]; exact hplaces.2.2 k (hheads.jar_ne_none hj)⟩

theorem jarsSound_takeSample (v : Int) (hs : JarsSound s) : JarsSound (takeSample v s) := by
  have hscu (u : Scu) : JarsSound (s.setScu u) := hs.congr rfl rfl (AlikeHeads.refl s) rfl rfl
  have hraise {w : State} (hw : JarsSound w) (c : FaultCode) (d : Byte) : JarsSound (w.raise c d) :=
    hw.congr rfl rfl (AlikeHeads.refl w) rfl rfl
  have hmatch {w : State} (hw : JarsSound w) (samples : List Int) : JarsSound (matchMeasurement samples w) := by
    unfold matchMeasurement
    split
    next => exact hraise hw _ _
    next e rest hline =>
      split
      · exact hraise hw _ _
      · exact jarsSound_passOn _ hw hline
  have hmeasured {w : State} (hw : JarsSound w) (samples : List Int) (n : Nat) :
      JarsSound (completeMeasurement samples n w) := by
    unfold completeMeasurement
    refine hmatch ?_ samples
    split
    · exact hraise hw _ _
    · exact hw
  unfold takeSample windowSample
  dsimp only [State.setScu_scu]
  split
  · exact hscu _
  · exact hscu _
  · split
    · exact hmeasured (hscu _) _ _
    · exact hscu _

/-! ### The banks' words -/

/-- The LIVE bank and the banks with jars in flight keep their words (R35, R101, R103). -/
def WordsInUse (r r' : Rcs) : Prop :=
  r'.live = r.live ∧ ∀ i, i = r.live ∨ 1 ≤ (r'.bank i).inFlight → (r'.bank i).words = (r.bank i).words

theorem WordsInUse.refl (r : Rcs) : WordsInUse r r := ⟨rfl, fun _ _ => rfl⟩

theorem WordsInUse.trans {r r' r'' : Rcs} (h : WordsInUse r r') (h' : WordsInUse r' r'')
    (hfewer : ∀ i, i ≠ r.live → (r''.bank i).inFlight ≤ (r'.bank i).inFlight) : WordsInUse r r'' := by
  refine ⟨h'.1.trans h.1, fun i hi => ?_⟩
  by_cases hlive : i = r.live
  · exact (h'.2 i (.inl (hlive.trans h.1.symm))).trans (h.2 i (.inl hlive))
  · have hcount := hi.resolve_left hlive
    exact (h'.2 i (.inr hcount)).trans (h.2 i (.inr (hcount.trans (hfewer i hlive))))

theorem wordsInUse_countUp (r : Rcs) : WordsInUse r (r.countUp r.live) := by
  obtain ⟨hlive, -, -, hwords, -⟩ := countUp_eq r r.live
  exact ⟨hlive, fun i _ => hwords i⟩

/-- A release changes the words of a bank only when no jar of it is left in flight (R101). -/
theorem wordsInUse_countDown (r : Rcs) (i : BankId) :
    WordsInUse r (r.countDown i) ∧ ∀ l, ((r.countDown i).bank l).inFlight ≤ (r.bank l).inFlight := by
  have hfewer (l : BankId) :
      ((r.setBank i ⟨(r.bank i).words, (r.bank i).inFlight - 1⟩).bank l).inFlight ≤ (r.bank l).inFlight := by
    rw [bank_setBank]
    split
    next hl => rw [hl]; exact Nat.sub_le _ _
    next => exact Nat.le_refl _
  obtain ⟨hrole, hlast, hdown⟩ | ⟨-, hdown⟩ := countDown_cases r i <;> rw [hdown]
  · have hother : i = r.live.other := by
      obtain hlive | hother := eq_or_eq_other i r.live
      · simp [Rcs.role, hlive] at hrole
      · exact hother
    subst hother
    obtain ⟨hlive, -, hsame, -⟩ := refill_eq
      (r.setBank r.live.other ⟨(r.bank r.live.other).words, (r.bank r.live.other).inFlight - 1⟩)
    rw [setBank_live] at hlive hsame
    refine ⟨⟨hlive, fun l hl => ?_⟩, fun l => by rw [refill_inFlight]; exact hfewer l⟩
    obtain rfl | rfl := eq_or_eq_other l r.live
    · rw [hsame, bank_setBank, if_neg (other_ne _).symm]
    · rw [refill_inFlight, bank_setBank_same] at hl
      have hcount := hl.resolve_left (other_ne _)
      dsimp only at hcount
      omega
  · exact ⟨⟨setBank_live _ _ _, fun l _ => words_setBank_inFlight _ _ _ _⟩, hfewer⟩

theorem wordsInUse_passOn (j : Jar) (m : Option Int) (s : State) :
    WordsInUse s.rcs (passOn j m s).rcs ∧ ∀ l, ((passOn j m s).rcs.bank l).inFlight ≤ (s.rcs.bank l).inFlight := by
  rw [passOn_rcs]
  obtain ⟨i, hi, -⟩ | ⟨hnone, -⟩ := countOf_cases j
  · rw [release_of_tagged _ hi]
    exact wordsInUse_countDown s.rcs i
  · rw [release_of_untagged _ hnone]
    exact ⟨WordsInUse.refl _, fun _ => Nat.le_refl _⟩

theorem wordsInUse_turret (r : Rcs) : KeptByTurret (fun s => WordsInUse r s.rcs) where
  infeed k s hs := by
    rw [serveInfeed_rcs]
    split
    · refine hs.trans (wordsInUse_countUp _) fun i hi => ?_
      rw [(countUp_eq _ _).2.2.2.2, if_neg (by rw [hs.1]; exact hi)]
      exact Nat.le_refl _
    · exact hs
  passOn j m s hs := hs.trans (wordsInUse_passOn j m s).1 fun i _ => (wordsInUse_passOn j m s).2 i
  handOver k j s _ hs := handOver_keeps (P := fun s => WordsInUse r s.rcs) k j (fun _ _ ht => ht)
    (fun j m t ht => ht.trans (wordsInUse_passOn j m t).1 fun i _ => (wordsInUse_passOn j m t).2 i) (by simpa using hs)

/-! ### The other commands -/

/-- The banks with jars in flight had them before and keep their words (R35, R103). -/
def KeepsWords (r r' : Rcs) : Prop :=
  ∀ i, 1 ≤ (r'.bank i).inFlight → 1 ≤ (r.bank i).inFlight ∧ (r'.bank i).words = (r.bank i).words

/-- The invariant as a statement on the blocks that it reads. -/
def JarsOf (p : Ptk) (heads : Vector Head 12) (r : Rcs) (line : List OutfeedEntry) : Prop :=
  JarsSound ((((State.reset.setPtk p).setHeads heads).setRcs r).setOfl line)

theorem jarsOf_iff (s : State) : JarsOf s.ptk s.heads s.rcs s.ofl ↔ JarsSound s :=
  ⟨fun h => h.congr rfl rfl (alikeHeads_of_heads rfl) rfl rfl, fun h => h.congr rfl rfl (alikeHeads_of_heads rfl) rfl rfl⟩

/-- What is kept of the jars through the commands that move none (R32, R35, R92). -/
def JarsKept (r : Rcs) (p : Ptk) (heads : Vector Head 12) (r' : Rcs) (line : List OutfeedEntry) : Prop :=
  JarsOf p heads r' line ∧ KeepsWords r r'

theorem JarsKept.congr {r : Rcs} (h : JarsKept r s.ptk s.heads s.rcs s.ofl) (hturret : t.ptk.turret = s.ptk.turret)
    (hbacklog : t.ptk.backlog = s.ptk.backlog) (hheads : AlikeHeads s t) (hrcs : t.rcs = s.rcs) (hofl : t.ofl = s.ofl) :
    JarsKept r t.ptk t.heads t.rcs t.ofl := by
  obtain ⟨hsound, hwords⟩ := h
  exact ⟨(jarsOf_iff t).2 (((jarsOf_iff s).1 hsound).congr hturret hbacklog hheads hrcs hofl), hrcs ▸ hwords⟩

theorem jarsKept_setRcs {r r' : Rcs} (h : JarsKept r s.ptk s.heads s.rcs s.ofl)
    (hcount : ∀ i, (r'.bank i).inFlight = (s.rcs.bank i).inFlight)
    (hretiring : r'.retiring = true ↔ 0 < (r'.bank r'.live.other).inFlight)
    (hwords : ∀ i, 1 ≤ (s.rcs.bank i).inFlight → (r'.bank i).words = (s.rcs.bank i).words) :
    JarsKept r (s.setRcs r').ptk (s.setRcs r').heads (s.setRcs r').rcs (s.setRcs r').ofl := by
  obtain ⟨hsound, hkept⟩ := h
  refine ⟨(jarsOf_iff (s.setRcs r')).2 (((jarsOf_iff s).1 hsound).setRcs hcount hretiring), fun i hi => ?_⟩
  rw [State.setRcs_rcs, hcount] at hi
  obtain ⟨hbefore, hsame⟩ := hkept i hi
  exact ⟨hbefore, (hwords i hi).trans hsame⟩

/-- With no jars on heads or in the line and no counts, all is in step (R54, R105). -/
theorem jarsKept_of_empty (r : Rcs) (hturret : s.ptk.turret < 3600) (hbacklog : s.ptk.backlog < 3600)
    (hheads : ∀ k, (s.head k).jar = none ∧ (s.head k).state = .empty) (hcount : ∀ i, (s.rcs.bank i).inFlight = 0)
    (hretiring : s.rcs.retiring = false) (hofl : s.ofl = []) : JarsKept r s.ptk s.heads s.rcs s.ofl := by
  refine ⟨(jarsOf_iff s).2 ⟨fun k => by simp [hheads k], ⟨fun i => ?_, by simp [hretiring, hcount]⟩, hturret, hbacklog,
    fun k hj => absurd (hheads k).1 hj⟩, fun i hi => absurd hi (by rw [hcount]; decide)⟩
  have hnone : headsTagged s i = 0 := by
    rw [headsTagged_eq_countP, List.countP_eq_zero]
    exact fun k _ => by simp [Head.holdsTagged_of_none (hheads k).1]
  simp [hnone, entriesTagged, hofl, hcount]

/-- A bank that does not retire and is not LIVE has no jar in flight (R91). -/
theorem JarsKept.spare_free {r : Rcs} (h : JarsKept r s.ptk s.heads s.rcs s.ofl) (hretiring : s.rcs.retiring = false) :
    (s.rcs.bank s.rcs.live.other).inFlight = 0 := by
  have haccounted := ((jarsOf_iff s).1 h.1).accounted.2
  rw [hretiring] at haccounted
  exact Nat.eq_zero_of_not_pos fun hcount => Bool.false_ne_true (haccounted.2 hcount)

theorem jarsKept_store {r : Rcs} (table : Table) (i : Nat) (words : List Word) (htaken : writeRefusal s.rcs table = none)
    (h : JarsKept r s.ptk s.heads s.rcs s.ofl) : JarsKept r (storeTable table i words s).ptk
      (storeTable table i words s).heads (storeTable table i words s).rcs (storeTable table i words s).ofl := by
  cases table with
  | spare =>
    have hretiring : s.rcs.retiring = false := by simpa [writeRefusal] using htaken
    have hfree := h.spare_free hretiring
    unfold storeTable
    dsimp only
    refine jarsKept_setRcs h (fun l => inFlight_setBank_words _ _ _ _) ?_ fun l hl => ?_
    · have hcount := inFlight_setBank_words s.rcs s.rcs.live.other s.rcs.live.other
        (storeWords clampRecipeWord words i (s.rcs.bank s.rcs.live.other).words)
      simp only [setBank_retiring, setBank_live, hretiring, Bool.false_eq_true, false_iff, Nat.not_lt]
      exact (hcount.trans hfree).le
    · have hne : l ≠ s.rcs.live.other := fun heq => by
        rw [heq, hfree] at hl
        exact absurd hl (by decide)
      exact congrArg Bank.words ((bank_setBank _ _ l _).trans (if_neg hne))
  | lead => exact h.congr rfl rfl (AlikeHeads.refl s) rfl rfl
  | config => exact h
  | live => exact h
  | retiring => exact h
  | tallies => exact h
  | sampleRing => exact h
  | heads => exact h

theorem jarsKept_commit {r : Rcs} {expected : Word} (haccepted : (commitCheck s.rcs expected).1 = .accepted)
    (h : JarsKept r s.ptk s.heads s.rcs s.ofl) : JarsKept r (s.setRcs (acceptCommit s.rcs)).ptk
      (s.setRcs (acceptCommit s.rcs)).heads (s.setRcs (acceptCommit s.rcs)).rcs (s.setRcs (acceptCommit s.rcs)).ofl := by
  have hretiring : s.rcs.retiring = false := by
    by_contra hr
    rw [commitCheck_of_retiring (by simpa using hr)] at haccepted
    cases haccepted
  have hfree := h.spare_free hretiring
  obtain ⟨hlive, hother, hcount, -, -⟩ := acceptCommit_keeps s.rcs
  have hcounts (i : BankId) : ((acceptCommit s.rcs).bank i).inFlight = (s.rcs.bank i).inFlight := by
    obtain rfl | rfl := eq_or_eq_other i s.rcs.live
    · exact hcount
    · rw [hother]
  by_cases hnone : (s.rcs.bank s.rcs.live).inFlight = 0
  · obtain ⟨hret, -, -⟩ := acceptCommit_copies hnone
    refine jarsKept_setRcs h hcounts ?_ fun i hi => ?_
    · simp [hret, hlive, hcount, hnone]
    · obtain rfl | rfl := eq_or_eq_other i s.rcs.live
      · omega
      · rw [hother]
  · have hswap := acceptCommit_of_inFlight (Nat.one_le_iff_ne_zero.2 hnone)
    refine jarsKept_setRcs h hcounts ?_ fun i _ => by rw [hswap]; rfl
    rw [hlive, other_other, hcount, hswap]
    simpa using Nat.pos_of_ne_zero hnone

/-- A PITCH frame moves P and the sync state alone of the Pitch Tracker (R9 to R11). -/
theorem pitchFrameArrival_ptk (payload : List Byte) (s : State) :
    ∃ p y, (pitchFrameArrival payload s).ptk = { s.ptk with p := p, sync := y } := by
  unfold pitchFrameArrival
  split
  next m1 m0 rest =>
    split
    · unfold takeMasterPitch
      dsimp only
      split
      · exact ⟨_, _, by rw [(purgeBehind_frame _).1]; rfl⟩
      · split
        · exact ⟨_, _, rfl⟩
        · exact ⟨_, _, rfl⟩
    · exact ⟨_, _, rfl⟩
  next => exact ⟨_, _, rfl⟩

/-! ### The warm reset, block by block -/

theorem warmReset_ptk (s : State) : (warmReset s).ptk = warmPtk s.ptk := by simp [warmReset]

theorem warmReset_rcs (s : State) : (warmReset s).rcs = warmRcs s.rcs := by simp [warmReset]

theorem warmReset_head (s : State) (k : Fin 12) : (warmReset s).head k = warmHead (s.head k) := by
  simp [warmReset, warmHeads_head]

theorem warmRcs_retiring (r : Rcs) : (warmRcs r).retiring = false := by
  unfold warmRcs
  dsimp only
  split
  · exact (refill_eq _).2.1
  next h => simpa using h

theorem jarsKept_rest (r : Rcs) : KeptByRest (fun s => JarsKept r s.ptk s.heads s.rcs s.ofl) where
  cursors read write s hs := jarsKept_setRcs hs (fun _ => rfl) ((jarsOf_iff s).1 hs.1).accounted.2 fun _ _ => rfl
  store table i words s htaken hs := jarsKept_store table i words htaken hs
  commit expected s haccepted hs := jarsKept_commit haccepted hs
  service k v s hs := hs.congr rfl rfl (alikeHeads_setHead (Head.alike_of_same rfl rfl)) rfl rfl
  stop s hs := hs.congr rfl rfl (AlikeHeads.refl s) rfl rfl
  millisecond ok s hs := hs.congr rfl rfl (AlikeHeads.refl s) rfl rfl
  tick s hs := hs.congr (by simp) (by simp) (alikeHeads_flushTick s) (by simp) (by simp)
  slotArrival k reply s _ hs := JarsKept.congr (s := s) hs (by simp [endSlot]) (by simp [endSlot])
    (alikeHeads_takeSlot k _ (endSlot s)) (by simp [endSlot]) (by simp [endSlot])
  pitchFrame payload s hs := by
    obtain ⟨p, y, hptk⟩ := pitchFrameArrival_ptk payload s
    exact hs.congr (by rw [hptk]) (by rw [hptk]) (alikeHeads_of_heads (by simp)) (by simp) (by simp)
  warm s hs := by
    obtain ⟨hturret, hbacklog, -⟩ := ((jarsOf_iff s).1 hs.1).places
    refine jarsKept_of_empty (s := warmReset s) r ?_ ?_ (fun k => ?_) (fun i => ?_) ?_ rfl
    · rwa [warmReset_ptk]
    · rwa [warmReset_ptk]
    · rw [warmReset_head]
      exact ⟨rfl, rfl⟩
    · rw [warmReset_rcs, warmRcs_inFlight]
    · rw [warmReset_rcs, warmRcs_retiring]
  cold straps s hs := jarsKept_of_empty (s := coldReset straps s) r (by decide : 0 < 3600) (by decide : 0 < 3600)
    (fun k => by rw [coldReset_head]; exact ⟨rfl, rfl⟩) (fun i => (coldReset_bank straps s i).2) rfl rfl

/-- Settles O56: an advance moves the jars by the angles and the counts with them; every other command leaves both, and a
bank's words change only when it has no jar in flight. -/
theorem jarsAccounted : Obligations.JarsAccounted := by
  intro c s t hs hexec
  have hsound := (jarsSound_iff s).2 hs
  by_cases hreport : ∃ d eye caps, c = .encoderReport d eye caps
  · obtain ⟨d, eye, caps, rfl⟩ := hreport
    have hwords : WordsInUse s.rcs t.rcs := by
      rw [← Host.Outcome.next.inj hexec]
      exact (wordsInUse_turret s.rcs).report d (WordsInUse.refl _)
    exact ⟨(jarsSound_iff t).1 (jarsSound_report d eye caps hsound hexec), fun i _ hi => hwords.2 i (.inr hi)⟩
  by_cases hsample : ∃ x, c = .sensorSampleArrival x
  · obtain ⟨x, rfl⟩ := hsample
    have hwords : WordsInUse s.rcs t.rcs := by
      rw [← Host.Outcome.next.inj hexec]
      exact (wordsInUse_turret s.rcs).sample x.toInt (WordsInUse.refl _)
    rw [← Host.Outcome.next.inj hexec] at hwords ⊢
    exact ⟨(jarsSound_iff _).1 (jarsSound_takeSample x.toInt hsound), fun i _ hi => hwords.2 i (.inr hi)⟩
  · have hkept := (jarsKept_rest s.rcs).command (fun d eye caps h => hreport ⟨d, eye, caps, h⟩)
      (fun x h => hsample ⟨x, h⟩) ⟨(jarsOf_iff s).2 hsound, fun i hi => ⟨hi, rfl⟩⟩ hexec
    exact ⟨(jarsSound_iff t).1 ((jarsOf_iff t).1 hkept.1), fun i _ hi => (hkept.2 i hi).2⟩

end

end Sys2Proof.Machine
end

section
/-! The faults of the apply angle (R41, R42): which head raises one at an advance, and that the other heads raise none. -/

namespace Sys2Proof.Machine

open Sys2Proof.Claims

/-! ### The fault of a head's apply row -/

/-- A fault raised, or none. -/
def FaultList.raiseAt (l : FaultList) (p : Word) : Option (FaultCode × Byte) → FaultList
  | some (c, d) => l.raise ⟨c, p, d⟩
  | none => l

/-- The cap check of a head: the type first, then the switch (R41, R42). -/
def capCheck (k : Fin 12) (cap chute : Nat) (switchOn : Bool) : Option (FaultCode × Byte) :=
  if cap ≠ 0 ∧ cap ≠ chute then some (.capTypeMismatch, byteOfNat (cap * 16 + chute))
  else if switchOn then none
  else some (.capMissing, headByte k)

/-- The fault of the apply row for a view, if it raises one (R41, R42). -/
def Stage.capFault (g : Stage) (k : Fin 12) (v : View) : Option (FaultCode × Byte) :=
  if v.state = .flushed ∧ g.field .applyAngle ≤ g.angle then capCheck k (g.field .capType) g.chute g.switchOn else none

section
variable {s : State} {k : Fin 12} {g : Stage} {v : View}

theorem applyPoint_flt (h : ShowsOn s k g v) : (applyPoint k s).flt = s.flt.raiseAt s.ptk.p (g.capFault k v) := by
  obtain ⟨⟨hstate, hjar, -, -⟩, hangle, -, hfield, hchute, hswitch⟩ := h
  unfold applyPoint Stage.capFault capCheck
  simp only [hjar, hstate, hfield, hangle, hchute, hswitch]
  split
  · split
    · simp [FaultList.raiseAt]
    · split <;> simp [FaultList.raiseAt]
  · rfl

/-- The points of a head raise the fault of its apply row and no other. -/
theorem headTransitions_flt (h : ShowsOn s k g v) : (headTransitions k s).flt =
    s.flt.raiseAt s.ptk.p (g.capFault k (closeRow g.angle g.lead g.field (openRow g.angle g.lead g.field v))) := by
  have hclosed := (showsOn_closePoint (showsOn_openPoint h).2).2
  have hflt : (closePoint k (openPoint k s)).flt = s.flt := by simp
  have hptk : (closePoint k (openPoint k s)).ptk = s.ptk := by simp
  have happly := applyPoint_flt hclosed
  rw [hflt, hptk] at happly
  rw [← happly]
  simp [headTransitions]

end

/-! ### Heads that raise nothing -/

/-- A head whose jar is short of its apply angle, or past it. -/
def QuietAt (s : State) (k : Fin 12) : Prop :=
  ∀ j, (s.head k).jar = some j → (s.head k).state ∈ [HeadState.loaded, .flushing, .flushed] →
    s.angle k < s.rcs.jarField j .applyAngle

section
variable {s t : State} {k l : Fin 12}

theorem QuietAt.congr (h : QuietAt s k) (hsame : SameHead s t k) (hstation : SameStation s t) : QuietAt t k := by
  intro j hj hstate
  rw [hsame.head] at hj hstate
  rw [angle_congr hstation.ptk, hstation.rcs]
  exact h j hj hstate

/-- A view that the first two rows leave FLUSHED was LOADED, FLUSHING or FLUSHED. -/
theorem flushed_after_rows {angle lead : Nat} {field : RecipeField → Nat} {v : View}
    (h : (closeRow angle lead field (openRow angle lead field v)).state = .flushed) :
    v.state ∈ [HeadState.loaded, .flushing, .flushed] := by
  obtain ⟨state, jar, valve, spindle⟩ := v
  unfold closeRow openRow at h
  cases state <;> simp at h ⊢

theorem headTransitions_of_quiet (h : QuietAt s k) : (headTransitions k s).flt = s.flt := by
  cases hj : (s.head k).jar with
  | none => rw [headTransitions_of_none hj]
  | some j =>
    have hshows : ShowsOn s k (stageOf s k j) ⟨(s.head k).state, j, s.valve k, s.spindle k⟩ :=
      ⟨⟨rfl, hj, rfl, rfl⟩, rfl, rfl, rfl, rfl, rfl⟩
    rw [headTransitions_flt hshows, Stage.capFault, if_neg]
    · rfl
    · rintro ⟨hflushed, hreached⟩
      exact absurd (h j hj (flushed_after_rows hflushed)) (Nat.not_lt.2 hreached)

theorem sameStation_headTransitions (k : Fin 12) (s : State) : SameStation s (headTransitions k s) := by
  constructor <;> simp

/-- A run of heads that are quiet raises nothing, and leaves the others as they are. -/
theorem foldl_headTransitions_quiet {ks : List (Fin 12)} (hnodup : ks.Nodup) (s : State) (hquiet : ∀ i ∈ ks, QuietAt s i) :
    (ks.foldl (fun t i => headTransitions i t) s).flt = s.flt ∧
    SameStation s (ks.foldl (fun t i => headTransitions i t) s) ∧
    ∀ l, l ∉ ks → SameHead s (ks.foldl (fun t i => headTransitions i t) s) l := by
  induction ks generalizing s with
  | nil => exact ⟨rfl, SameStation.refl s, fun l _ => SameHead.refl s l⟩
  | cons i ks ih =>
    obtain ⟨hnew, hnodup⟩ := List.nodup_cons.1 hnodup
    have hstation := sameStation_headTransitions i s
    have hlater (l : Fin 12) (hl : l ∈ ks) : QuietAt (headTransitions i s) l :=
      (hquiet l (List.mem_cons_of_mem i hl)).congr
        (sameHead_headTransitions (fun heq : i = l => hnew (heq ▸ hl)) s) hstation
    obtain ⟨hflt, hstations, hheads⟩ := ih hnodup _ hlater
    refine ⟨hflt.trans (headTransitions_of_quiet (hquiet i List.mem_cons_self)), hstation.trans hstations, fun l hl => ?_⟩
    rw [List.mem_cons, not_or] at hl
    exact (sameHead_headTransitions (Ne.symm hl.1) s).trans (hheads l hl.2)

theorem allTransitions_of_quiet (hquiet : ∀ i, QuietAt s i) : (allTransitions s).flt = s.flt :=
  (foldl_headTransitions_quiet allHeads_nodup s fun i _ => hquiet i).1

/-- With every other head quiet, the advance raises what one head's points raise. -/
theorem allTransitions_flt {g : Stage} {v : View} (hquiet : ∀ i, i ≠ k → QuietAt s i) (h : ShowsOn s k g v) :
    (allTransitions s).flt =
      s.flt.raiseAt s.ptk.p (g.capFault k (closeRow g.angle g.lead g.field (openRow g.angle g.lead g.field v))) := by
  obtain ⟨before, after, hsplit, hbefore, hafter⟩ := exists_split_allHeads k
  have hnodup := allHeads_nodup
  rw [hsplit, List.nodup_append, List.nodup_cons] at hnodup
  obtain ⟨hnodup1, ⟨-, hnodup2⟩, hdisjoint⟩ := hnodup
  obtain ⟨hflt1, hstation1, hheads1⟩ := foldl_headTransitions_quiet hnodup1 s fun i hi =>
    hquiet i fun heq => hbefore (heq ▸ hi)
  set u := before.foldl (fun t i => headTransitions i t) s with hu
  have hshows : ShowsOn u k g v := by
    obtain ⟨hshown, hangle, hlead, hfield, hchute, hswitch⟩ := h
    exact ⟨hshown.congr (hheads1 k hbefore), (angle_congr hstation1.ptk k).trans hangle, by rw [hstation1.ptk, hlead],
      by rw [hstation1.rcs, hfield], by rw [configWord_congr hstation1.cfg, hchute], by rw [hstation1.pins, hswitch]⟩
  have hquiet2 (i : Fin 12) (hi : i ∈ after) : QuietAt (headTransitions k u) i := by
    have hne : i ≠ k := fun heq => hafter (heq ▸ hi)
    have hnot : i ∉ before := fun hb => hdisjoint i hb i (List.mem_cons_of_mem k hi) rfl
    exact ((hquiet i hne).congr (hheads1 i hnot) hstation1).congr (sameHead_headTransitions (Ne.symm hne) u)
      (sameStation_headTransitions k u)
  have hlast := (foldl_headTransitions_quiet hnodup2 (headTransitions k u) hquiet2).1
  rw [headTransitions_flt hshows, hflt1, hstation1.ptk] at hlast
  rw [allTransitions, hsplit, List.foldl_append, List.foldl_cons]
  exact hlast

/-- A FLUSHED head that reaches its apply angle, among quiet heads: the advance raises its cap check alone. -/
theorem allTransitions_flt_of_flushed {j : Jar} (hquiet : ∀ i, i ≠ k → QuietAt s i) (hj : (s.head k).jar = some j)
    (hflushed : (s.head k).state = .flushed) (hreached : s.rcs.jarField j .applyAngle ≤ s.angle k) :
    (allTransitions s).flt = s.flt.raiseAt s.ptk.p (capCheck k (s.rcs.jarField j .capType)
      (s.configWord .chuteType).toNat (s.pins.capSwitches.getLsbD k.val)) := by
  have hshows : ShowsOn s k (stageOf s k j) ⟨(s.head k).state, j, s.valve k, s.spindle k⟩ :=
    ⟨⟨rfl, hj, rfl, rfl⟩, rfl, rfl, rfl, rfl, rfl⟩
  rw [allTransitions_flt hquiet hshows]
  simp [Stage.capFault, openRow, closeRow, hflushed, stageOf, hreached]

/-- The same for the points of that head alone. -/
theorem headTransitions_flt_of_flushed {j : Jar} (hj : (s.head k).jar = some j)
    (hflushed : (s.head k).state = .flushed) (hreached : s.rcs.jarField j .applyAngle ≤ s.angle k) :
    (headTransitions k s).flt = s.flt.raiseAt s.ptk.p (capCheck k (s.rcs.jarField j .capType)
      (s.configWord .chuteType).toNat (s.pins.capSwitches.getLsbD k.val)) := by
  have hshows : ShowsOn s k (stageOf s k j) ⟨(s.head k).state, j, s.valve k, s.spindle k⟩ :=
    ⟨⟨rfl, hj, rfl, rfl⟩, rfl, rfl, rfl, rfl, rfl⟩
  rw [headTransitions_flt hshows]
  simp [Stage.capFault, openRow, closeRow, hflushed, stageOf, hreached]

end

/-! ### At an advance -/

/-- A FLUSHED head reaches its apply angle at the next advance, and no other head does (R38). -/
structure ReachesApply (s : State) (k : Fin 12) (j : Jar) : Prop where
  front : AtFront s
  jar : (s.head k).jar = some j
  flushed : (s.head k).state = .flushed
  reached : s.rcs.jarField j .applyAngle ≤ s.angle k + 1
  turn : s.angle k + 1 < 3600
  others : ∀ i, i ≠ k → ∀ j', (s.head i).jar = some j' → (s.head i).state ∈ [HeadState.loaded, .flushing, .flushed] →
    s.angle i + 1 < s.rcs.jarField j' .applyAngle

/-- The cap check that the advance makes of its head. -/
def capCheckAt (s : State) (k : Fin 12) (j : Jar) (caps : BitVec 12) : Option (FaultCode × Byte) :=
  capCheck k (s.rcs.jarField j .capType) (s.configWord .chuteType).toNat (caps.getLsbD k.val)

section
variable {eye : Bool} {caps : BitVec 12} {s w : State} {k i : Fin 12} {j : Jar}

/-- The heads not reaching their apply angle are quiet where the advance has moved them on. -/
theorem quietAt_of_moved (h : ReachesApply s k j) (hi : i ≠ k) (hhead : w.head i = s.head i)
    (hangle : w.angle i = (s.angle i + 1) % 3600)
    (hfield : ∀ j', (s.head i).jar = some j' → w.rcs.jarField j' = s.rcs.jarField j') : QuietAt w i := by
  intro j' hj' hstate
  rw [hhead] at hj' hstate
  rw [hangle, hfield j' hj']
  exact (Nat.mod_le _ _).trans_lt (h.others i hi j' hj' hstate)

theorem flt_between (h : ReachesApply s k j) (hbetween : nextCount s % 300 ≠ 0) :
    (allTransitions (beforeHeads eye caps s)).flt = s.flt.raiseAt s.ptk.p (capCheckAt s k j caps) := by
  have hmoved (l : Fin 12) : (beforePitch eye caps s).angle l = (s.angle l + 1) % 3600 := by
    rw [← beforeHeads_between (eye := eye) (caps := caps) hbetween, beforeHeads_angle_succ h.front]
  have hhead (l : Fin 12) : (beforePitch eye caps s).head l = s.head l := head_congr (by simp) l
  have hrcs : (beforePitch eye caps s).rcs = s.rcs := by simp
  have hquiet (i : Fin 12) (hi : i ≠ k) : QuietAt (beforePitch eye caps s) i :=
    quietAt_of_moved h hi (hhead i) (hmoved i) fun j' _ => by rw [hrcs]
  have hcfg := configWord_congr (s := s) (t := beforePitch eye caps s) (by simp)
  have hflt := allTransitions_flt_of_flushed (s := beforePitch eye caps s) (k := k) (j := j) hquiet
    ((hhead k).symm ▸ h.jar) ((hhead k).symm ▸ h.flushed)
    (by rw [hrcs, hmoved, Nat.mod_eq_of_lt h.turn]; exact h.reached)
  rw [hrcs, hcfg] at hflt
  rw [beforeHeads_between hbetween, hflt]
  simp [capCheckAt, beforePitch_ptk]

/-! ### At a pitch event -/

/-- Until the exit is served no bank changes a word (R92). -/
theorem beforeExit_words (eye : Bool) (caps : BitVec 12) (s : State) :
    (beforeExit eye caps s).rcs.live = s.rcs.live ∧
    ∀ i, ((beforeExit eye caps s).rcs.bank i).words = (s.rcs.bank i).words := by
  rw [beforeExit, serveInfeed_rcs, readyToServe_rcs]
  split
  · obtain ⟨hlive, -, -, hwords, -⟩ := countUp_eq s.rcs s.rcs.live
    exact ⟨hlive, hwords⟩
  · exact ⟨rfl, fun _ => rfl⟩

theorem beforeExit_field (j' : Jar) : (beforeExit eye caps s).rcs.jarField j' = s.rcs.jarField j' :=
  funext (jarField_congr fun i _ => (beforeExit_words eye caps s).2 i)

theorem beforeExit_angle (hdue : PitchDue s) (l : Fin 12) :
    (beforeExit eye caps s).angle l = (s.angle l + 1) % 3600 := by
  rw [← beforeHeads_angle_succ (eye := eye) (caps := caps) hdue.1, beforeHeads_eq_exit hdue]
  exact (angle_congr (by simp) l).symm

/-- A jar that the infeed loads reaches no apply angle at the load, its recipe being in order (R89). -/
theorem quietAt_infeed (hdue : PitchDue s) (hcommitted : CommittedInOrder s) :
    QuietAt (beforeExit eye caps s) (infeedAt s) := by
  intro j' hj' hstate
  have hangle : (beforeExit eye caps s).angle (infeedAt s) = 0 := by
    rw [beforeExit_angle hdue, (angle_eq_infeed_iff hdue _).2 rfl]
  obtain ⟨-, r, -, st, c, hst, hhead⟩ | ⟨-, hhead | hhead⟩ := serveInfeed_head (infeedAt s) (readyToServe eye caps s)
  all_goals rw [beforeExit, hhead] at hj' hstate
  · obtain rfl : trackedJar (readyToServe eye caps s).rcs r c = j' := Option.some_inj.1 hj'
    obtain rfl | ⟨rfl, husable⟩ := hst
    · simp [loadedAs] at hstate
    · rw [readyToServe_rcs] at husable ⊢
      obtain ⟨hrecipe, hvalid⟩ : r.recipe.toNat ≤ 7 ∧ bankField s.rcs.liveWords r.recipe.toNat .valid = 1 := by
        simpa [usableAtLoad, recipeUsable, Rcs.liveWords] using husable
      have horder := hcommitted s.rcs.live r.recipe.toNat (Nat.lt_succ_of_le hrecipe) (by simp [Rcs.role]) hvalid
      simp only [recipeInOrder, decide_eq_true_eq] at horder
      rw [hangle, beforeExit_field]
      change 0 < bankField (s.rcs.bank s.rcs.live).words r.recipe.toNat .applyAngle
      omega
  · cases hj'
  · simp [loadedAs] at hstate

/-- Every head but the one that reaches its apply angle is quiet before the exit is served. -/
theorem quietAt_beforeExit (h : ReachesApply s k j) (hdue : PitchDue s) (hcommitted : CommittedInOrder s) (hi : i ≠ k) :
    QuietAt (beforeExit eye caps s) i := by
  by_cases hinfeed : i = infeedAt s
  · rw [hinfeed]
    exact quietAt_infeed hdue hcommitted
  · refine quietAt_of_moved h hi ?_ (beforeExit_angle hdue i) fun j' _ => beforeExit_field j'
    rw [beforeExit, (sameHead_serveInfeed (Ne.symm hinfeed) _).head, readyToServe_head]

/-- A jar left on its head reads the same recipe after the exit as before it: its bank still counts it (R35, R92). -/
theorem exit_field (hdue : PitchDue s) (hcounts : CountsMatchJars s) (hjars : JarsConsistent s)
    (hi : i ≠ infeedAt s + 2) {j' : Jar} (hj' : ((beforeExit eye caps s).head i).jar = some j') :
    (beforeHeads eye caps s).rcs.jarField j' = (beforeExit eye caps s).rcs.jarField j' := by
  have hsame : SameHead (beforeExit eye caps s) (beforeHeads eye caps s) i := by
    rw [beforeHeads_eq_exit hdue]
    exact sameHead_serveExit (Ne.symm hi) _
  have hwords : WordsInUse (beforeExit eye caps s).rcs (beforeHeads eye caps s).rcs := by
    rw [beforeHeads_eq_exit hdue]
    exact (wordsInUse_turret _).exit _ (WordsInUse.refl _)
  obtain ⟨-, hheads, -, hrcs, hofl, -⟩ := readyToServe_frame eye caps s
  have hready := ((accounted_iff s).2 hcounts).congr (alikeHeads_of_heads hheads) hrcs hofl
  have haccounted := accounted_serveExit (infeedAt s + 2) (accounted_serveInfeed (infeedAt s) hready)
  rw [← beforeHeads_pitch hdue.2] at haccounted
  refine funext (jarField_congr fun bank htag => hwords.2 bank ?_)
  by_cases hinfeed : i = infeedAt s
  · subst hinfeed
    obtain ⟨-, r, -, st, c, -, hhead⟩ | ⟨-, hhead | hhead⟩ := serveInfeed_head (infeedAt s) (readyToServe eye caps s)
    all_goals rw [beforeExit, hhead] at hj'
    · obtain rfl : trackedJar (readyToServe eye caps s).rcs r c = j' := Option.some_inj.1 hj'
      refine .inl ?_
      rw [(beforeExit_words eye caps s).1, ← readyToServe_rcs eye caps s]
      exact (Option.some_inj.1 htag).symm
    · cases hj'
    · obtain rfl := Option.some_inj.1 hj'
      cases htag
  · have hstays : (beforeExit eye caps s).head i = s.head i := by
      rw [beforeExit, (sameHead_serveInfeed (Ne.symm hinfeed) _).head, readyToServe_head]
    have htracked := (hjars i j' (hstays ▸ hj')).1 (by simp [htag])
    have hheld : ((beforeHeads eye caps s).head i).holdsTagged bank = true := by
      rw [Head.holdsTagged_of_jar (hsame.head ▸ hj')]
      exact (taggedWith_iff bank j').2 ⟨htracked, htag⟩
    refine .inr ?_
    rw [← haccounted.1 bank]
    exact Nat.le_add_right_of_le (Nat.le_add_right_of_le (headsTagged_pos hheld))

/-- After the exit has been served the heads but one are quiet. -/
theorem quietAt_beforeHeads (h : ReachesApply s k j) (hdue : PitchDue s) (hcommitted : CommittedInOrder s)
    (hcounts : CountsMatchJars s) (hjars : JarsConsistent s) (hi : i ≠ k) : QuietAt (beforeHeads eye caps s) i := by
  by_cases hexit : i = infeedAt s + 2
  · intro j' hj'
    rw [hexit, beforeHeads_eq_exit hdue, serveExit_jar] at hj'
    cases hj'
  · have hbefore : QuietAt (beforeExit eye caps s) i := quietAt_beforeExit h hdue hcommitted hi
    have hsame : SameHead (beforeExit eye caps s) (beforeHeads eye caps s) i := by
      rw [beforeHeads_eq_exit hdue]
      exact sameHead_serveExit (Ne.symm hexit) _
    intro j' hj' hstate
    rw [hsame.head] at hj' hstate
    rw [exit_field hdue hcounts hjars hexit hj', beforeHeads_angle_succ hdue.1, ← beforeExit_angle hdue]
    exact hbefore j' hj' hstate

/-! ### The fault at a pitch event -/

/-- The codes that a pitch event can raise besides those of the caps. -/
def besideCaps : List FaultCode := .infeedStale :: infeedCodes ++ passOnCodes

theorem raises_before_exit (eye : Bool) (caps : BitVec 12) (s : State) :
    RaisesAmong (.infeedStale :: infeedCodes) s.flt (beforeExit eye caps s).flt := by
  have hready : RaisesAmong (.infeedStale :: infeedCodes) s.flt (readyToServe eye caps s).flt := by
    obtain ⟨-, -, -, hflt⟩ := repitched_finds (beforePitch eye caps s)
    obtain ⟨-, -, -, hflt'⟩ := beforePitch_finds eye caps s
    rw [← hflt', ← hflt, readyToServe, purgeIfSynced]
    split
    · exact (purgeBehind_raises _).mono (by simp)
    · exact raisesAmong_refl _ _
  exact hready.trans ((serveInfeed_raises _ _).mono (by simp))

/-- The exit raises what its head's points raise, and then what the completed jars raise. -/
theorem raises_exit (t : State) (k : Fin 12) : RaisesAmong passOnCodes (headTransitions k t).flt (serveExit k t).flt := by
  unfold serveExit
  dsimp only
  split
  · refine RaisesAmong.trans ?_ (joinOutfeed_raises _ _)
    simpa using removeOverdue_raises (vacate k (headTransitions k t))
  · exact removeOverdue_raises _

end

section
variable {eye : Bool} {caps : BitVec 12} {s t : State} {k : Fin 12} {j : Jar}

/-- A fault raised, or none, between raises of codes that are not of the caps. -/
def CapRaised (s t : State) (fault : Option (FaultCode × Byte)) : Prop :=
  ∃ l, RaisesAmong besideCaps s.flt l ∧ RaisesAmong besideCaps (l.raiseAt t.ptk.p fault) t.flt

/-- The head that reaches its apply angle is not the one at the infeed. -/
theorem ReachesApply.ne_infeed (h : ReachesApply s k j) (hdue : PitchDue s) : k ≠ infeedAt s := by
  intro heq
  have hangle := (angle_eq_infeed_iff hdue k).2 heq
  have hturn := h.turn
  omega

theorem capRaised_between (h : ReachesApply s k j) (hbetween : nextCount s % 300 ≠ 0) :
    CapRaised s (allTransitions (beforeHeads eye caps s)) (capCheckAt s k j caps) := by
  have hp : (allTransitions (beforeHeads eye caps s)).ptk.p = s.ptk.p := by
    rw [beforeHeads_between hbetween]
    simp [beforePitch_ptk]
  refine ⟨s.flt, raisesAmong_refl _ _, ?_⟩
  rw [hp, flt_between h hbetween]
  exact raisesAmong_refl _ _

theorem p_pitchEvent (hdue : PitchDue s) : (allTransitions (beforeHeads eye caps s)).ptk.p = s.ptk.p + 1 := by
  have hexit := (beforeExit_blocks eye caps s).1
  rw [beforeHeads_eq_exit hdue]
  simpa using hexit

/-- Served at the exit, the head raises its cap check before it hands its jar over. -/
theorem capRaised_exit (h : ReachesApply s k j) (hdue : PitchDue s) (hcommitted : CommittedInOrder s)
    (hcounts : CountsMatchJars s) (hjars : JarsConsistent s) (hexit : k = infeedAt s + 2) :
    CapRaised s (allTransitions (beforeHeads eye caps s)) (capCheckAt s k j caps) := by
  subst hexit
  have hhead := (beforeExit_head eye caps s).1
  obtain ⟨hp, -, hcfg⟩ := beforeExit_blocks eye caps s
  have hpins : (beforeExit eye caps s).pins.capSwitches = caps := by simp [beforeExit, readyToServe_frame]
  have hserved := headTransitions_flt_of_flushed (s := beforeExit eye caps s) (by rw [hhead]; exact h.jar)
    (by rw [hhead]; exact h.flushed)
    (by rw [beforeExit_field, beforeExit_angle hdue, Nat.mod_eq_of_lt h.turn]; exact h.reached)
  rw [beforeExit_field, configWord_congr hcfg, hpins, hp] at hserved
  have hquiet (i : Fin 12) : QuietAt (beforeHeads eye caps s) i := by
    by_cases hi : i = infeedAt s + 2
    · intro j' hj'
      rw [hi, beforeHeads_eq_exit hdue, serveExit_jar] at hj'
      cases hj'
    · exact quietAt_beforeHeads h hdue hcommitted hcounts hjars hi
  refine ⟨(beforeExit eye caps s).flt, (raises_before_exit eye caps s).mono (by simp [besideCaps]), ?_⟩
  rw [p_pitchEvent hdue, allTransitions_of_quiet hquiet, beforeHeads_eq_exit hdue, capCheckAt, ← hserved]
  exact (raises_exit _ _).mono (by simp [besideCaps])

/-- On the turn, the head raises its cap check after the exit has been served. -/
theorem capRaised_turn (h : ReachesApply s k j) (hdue : PitchDue s) (hcommitted : CommittedInOrder s)
    (hcounts : CountsMatchJars s) (hjars : JarsConsistent s) (hexit : k ≠ infeedAt s + 2) :
    CapRaised s (allTransitions (beforeHeads eye caps s)) (capCheckAt s k j caps) := by
  have hinfeed := h.ne_infeed hdue
  have hbefore : (beforeExit eye caps s).head k = s.head k := by
    rw [beforeExit, (sameHead_serveInfeed (Ne.symm hinfeed) _).head, readyToServe_head]
  have hhead : (beforeHeads eye caps s).head k = s.head k := by
    rw [beforeHeads_eq_exit hdue, (sameHead_serveExit (Ne.symm hexit) _).head, hbefore]
  have hfield : (beforeHeads eye caps s).rcs.jarField j = s.rcs.jarField j := by
    rw [exit_field hdue hcounts hjars hexit (by rw [hbefore]; exact h.jar), beforeExit_field]
  obtain ⟨hp, -, hcfg⟩ := beforeExit_blocks eye caps s
  have hcfg' : (beforeHeads eye caps s).cfg = s.cfg := by
    rw [beforeHeads_eq_exit hdue, ← hcfg]
    simp
  have hpins : (beforeHeads eye caps s).pins.capSwitches = caps := by
    rw [beforeHeads_eq_exit hdue]
    simp [beforeExit, readyToServe_frame]
  have hp' : (beforeHeads eye caps s).ptk.p = s.ptk.p + 1 := by
    rw [beforeHeads_eq_exit hdue, ← hp]
    simp
  have hturned := allTransitions_flt_of_flushed (s := beforeHeads eye caps s) (k := k) (j := j)
    (fun i hi => quietAt_beforeHeads h hdue hcommitted hcounts hjars hi) (hhead ▸ h.jar) (hhead ▸ h.flushed)
    (by rw [hfield, beforeHeads_angle_succ h.front, Nat.mod_eq_of_lt h.turn]; exact h.reached)
  rw [hfield, configWord_congr hcfg', hpins, hp'] at hturned
  refine ⟨(beforeHeads eye caps s).flt, ?_, ?_⟩
  · have hquiet : QuietAt (beforeExit eye caps s) (infeedAt s + 2) :=
      quietAt_beforeExit h hdue hcommitted (Ne.symm hexit)
    have hserved := raises_exit (beforeExit eye caps s) (infeedAt s + 2)
    rw [headTransitions_of_quiet hquiet] at hserved
    rw [beforeHeads_eq_exit hdue]
    exact ((raises_before_exit eye caps s).mono (by simp [besideCaps])).trans (hserved.mono (by simp [besideCaps]))
  · rw [p_pitchEvent hdue, hturned]
    exact raisesAmong_refl _ _

/-- Whenever a head alone reaches its apply angle, its cap check is what the advance raises of the two cap codes. -/
theorem capRaised (h : ReachesApply s k j) (hcommitted : CommittedInOrder s) (hcounts : CountsMatchJars s)
    (hjars : JarsConsistent s) : CapRaised s (allTransitions (beforeHeads eye caps s)) (capCheckAt s k j caps) := by
  by_cases hpitch : nextCount s % 300 = 0
  · by_cases hexit : k = infeedAt s + 2
    · exact capRaised_exit h ⟨h.front, hpitch⟩ hcommitted hcounts hjars hexit
    · exact capRaised_turn h ⟨h.front, hpitch⟩ hcommitted hcounts hjars hexit
  · exact capRaised_between h hpitch

/-- What such raises enter of the two cap codes. -/
theorem CapRaised.entered {c : FaultCode} {d : Byte} (h : CapRaised s t (some (c, d))) (hc : c ∉ besideCaps) :
    Entered s t c d := by
  obtain ⟨l, hbefore, hafter⟩ := h
  refine ⟨hafter.active_of_active (active_raise_self _ _), fun hs => hafter.held_subset ?_⟩
  exact mem_held_raise.2 (.inr ⟨(hbefore.active_eq hc).trans hs, rfl⟩)

theorem CapRaised.active_eq {fault : Option (FaultCode × Byte)} {c : FaultCode} (h : CapRaised s t fault)
    (hc : c ∉ besideCaps) (hother : ∀ d, fault ≠ some (c, d)) : t.flt.active c = s.flt.active c := by
  obtain ⟨l, hbefore, hafter⟩ := h
  rw [hafter.active_eq hc, ← hbefore.active_eq hc]
  match fault with
  | none => rfl
  | some (c', d) =>
    refine active_raise_of_ne ?_
    rintro rfl
    exact hother d rfl

end

/-- The cap check raised between pitches, in the form of the obligation. -/
theorem raiseAt_capCheck (l : FaultList) (p : Word) (k : Fin 12) (cap chute : Nat) (switchOn : Bool) :
    l.raiseAt p (capCheck k cap chute switchOn) =
      if cap ≠ 0 ∧ cap ≠ chute then l.raise ⟨.capTypeMismatch, p, BitVec.ofNat 8 (cap * 16 + chute)⟩
      else if switchOn = false then l.raise ⟨.capMissing, p, BitVec.ofNat 8 k.val⟩ else l := by
  unfold capCheck
  split
  · rfl
  · cases switchOn <;> rfl

/-- Settles O8: at an advance the points of every other head raise nothing, and a pitch event raises the two cap codes at no
other place, so the cap check of the one head that reaches its apply angle decides them. -/
theorem capFaults : Obligations.CapFaults := by
  intro eye caps s k j hfront hjar hflushed hreached hturn hothers cap chute mismatch
  have h : ReachesApply s k j := ⟨hfront, hjar, hflushed, hreached, hturn, hothers⟩
  refine ⟨_, exec_forward hfront, fun hbetween => ?_, fun hcommitted hcounts hjars => ?_⟩
  · rw [flt_between h hbetween, capCheckAt, raiseAt_capCheck]
  · have hraised : CapRaised s (allTransitions (beforeHeads eye caps s)) (capCheckAt s k j caps) :=
      capRaised h hcommitted hcounts hjars
    constructor
    · intro hcap hchute
      have hcheck : capCheckAt s k j caps = some (.capTypeMismatch, mismatch) := if_pos ⟨hcap, hchute⟩
      rw [hcheck] at hraised
      exact ⟨hraised.entered (by decide), hraised.active_eq (by decide) (by simp)⟩
    · intro hright
      have hcheck : capCheckAt s k j caps = if caps.getLsbD k.val then none else some (.capMissing, headByte k) :=
        if_neg (by rintro ⟨hcap, hchute⟩; exact hright.elim hcap hchute)
      rw [hcheck] at hraised
      refine ⟨hraised.active_eq (by decide) ?_, fun hoff => ?_, fun hon => ?_⟩
      · split <;> simp
      · rw [if_neg (by rw [hoff]; decide)] at hraised
        exact hraised.entered (by decide)
      · rw [if_pos hon] at hraised
        exact hraised.active_eq (by decide) (by simp)

end Sys2Proof.Machine
end

section
/-! The Fault List through every command (R161, R162): every operation only raises codes, but CLEAR_FAULT and the resets. -/

namespace Sys2Proof.Machine

open Sys2Proof.Claims

/-! ### The bounds and the order of the list -/

/-- The list and the overflow set are within bounds, their codes distinct, and the set in order (R161, R162). -/
def FaultList.Sound (l : FaultList) : Prop :=
  l.list.length ≤ 8 ∧ (l.held.map (fun e => e.code)).Nodup ∧ (l.overflow ≠ [] → l.list.length = 8) ∧
    l.overflow.Pairwise (fun a b => a.code.code < b.code.code)

theorem faultsSound_iff (s : State) : s.flt.Sound ↔ FaultListBounded s ∧ OverflowSorted s := by
  constructor
  · rintro ⟨hlength, hnodup, hfull, hsorted⟩
    exact ⟨⟨hlength, hnodup, hfull⟩, hsorted⟩
  · rintro ⟨⟨hlength, hnodup, hfull⟩, hsorted⟩
    exact ⟨hlength, hnodup, hfull, hsorted⟩

theorem faultsSound_nil : FaultList.Sound ⟨[], []⟩ := ⟨Nat.zero_le 8, List.nodup_nil, fun h => absurd rfl h, List.Pairwise.nil⟩

section
variable {l l' : FaultList} {codes : List FaultCode}

/-- An entry put at the place of its code keeps the set in order, when its code is new to the set. -/
theorem insertFault_sorted {e : FaultEntry} {es : List FaultEntry}
    (hsorted : es.Pairwise (fun a b => a.code.code < b.code.code)) (hnew : e.code ∉ es.map (fun x => x.code)) :
    (insertFault e es).Pairwise (fun a b => a.code.code < b.code.code) := by
  induction es with
  | nil => exact List.pairwise_singleton _ e
  | cons d rest ih =>
    obtain ⟨hbelow, hrest⟩ := List.pairwise_cons.1 hsorted
    rw [List.map_cons, List.mem_cons, not_or] at hnew
    have hdiffer : e.code.code ≠ d.code.code := fun hcode => hnew.1 (by
      have := congrArg faultOfCode hcode
      rwa [faultOfCode_code, faultOfCode_code, Option.some_inj] at this)
    rw [insertFault, List.orderedInsert]
    split
    next hle =>
      refine List.pairwise_cons.2 ⟨fun x hx => ?_, hsorted⟩
      obtain rfl | hx := List.mem_cons.1 hx
      · exact Nat.lt_of_le_of_ne hle hdiffer
      · exact hle.trans_lt (hbelow x hx)
    next hgt =>
      refine List.pairwise_cons.2 ⟨fun x hx => ?_, ih hrest hnew.2⟩
      obtain rfl | hx := List.mem_cons.1 ((insertFault_perm e rest).mem_iff.1 hx)
      · exact Nat.not_le.1 hgt
      · exact hbelow x hx

/-- The list holds a code or not; a code that is not held is in neither part. -/
theorem not_mem_overflow_codes {e : FaultEntry} (h : l.active e.code = false) : e.code ∉ l.overflow.map (fun x => x.code) := by
  have hcodes := mt (active_iff l e.code).2 (Bool.eq_false_iff.1 h)
  rw [List.map_append, List.mem_append, not_or] at hcodes
  exact hcodes.2

theorem FaultList.Sound.raise (h : l.Sound) (e : FaultEntry) : (l.raise e).Sound := by
  have hcodes := nodup_held_raise e h.2.1
  obtain ⟨hlength, -, hfull, hsorted⟩ := h
  obtain ⟨-, heq⟩ | ⟨-, hroom, heq⟩ | ⟨hnew, height, heq⟩ := raise_cases l e <;> rw [heq] at hcodes ⊢
  · exact ⟨hlength, hcodes, hfull, hsorted⟩
  · exact ⟨List.length_append.trans_le hroom, hcodes, fun hover => absurd (hfull hover) hroom.ne, hsorted⟩
  · exact ⟨hlength, hcodes, fun _ => Nat.le_antisymm hlength height,
      insertFault_sorted hsorted (not_mem_overflow_codes hnew)⟩

theorem RaisesAmong.sound (hraises : RaisesAmong codes l l') (h : l.Sound) : l'.Sound := by
  induction hraises with
  | refl => exact h
  | tail _ hstep ih =>
    obtain ⟨e, -, rfl⟩ := hstep
    exact ih.raise e

/-! ### Clearing -/

/-- What is left of the codes held when entries leave. -/
theorem nodup_codes_of_sublist {es es' : List FaultEntry} (hsub : es.Sublist es')
    (h : (es'.map (fun e => e.code)).Nodup) : (es.map (fun e => e.code)).Nodup :=
  h.sublist (hsub.map _)

/-- A promotion brings a list that has lost an entry back to its bounds. -/
theorem sound_promote (hnodup : (l.held.map (fun e => e.code)).Nodup) (hroom : l.list.length < 8)
    (hfull : l.overflow ≠ [] → l.list.length = 7) (hsorted : l.overflow.Pairwise (fun a b => a.code.code < b.code.code)) :
    l.promote.Sound := by
  obtain ⟨list, overflow⟩ := l
  cases overflow with
  | nil => exact ⟨Nat.le_of_lt hroom, hnodup, fun hover => absurd rfl hover, hsorted⟩
  | cons e rest =>
    refine ⟨List.length_append.trans_le hroom, ?_, fun _ => ?_, (List.pairwise_cons.1 hsorted).2⟩
    · simpa [FaultList.held, FaultList.promote] using hnodup
    · have : list.length = 7 := hfull (List.cons_ne_nil e rest)
      simp only [FaultList.promote, List.length_append, List.length_singleton]
      omega

/-- Of distinct codes a code that is listed stands there once. -/
theorem length_filter_code {es : List FaultEntry} {c : FaultCode} (hnodup : (es.map (fun e => e.code)).Nodup)
    (hmem : c ∈ es.map (fun e => e.code)) : (es.filter (fun e => e.code ≠ c)).length + 1 = es.length := by
  have hcount : es.countP (fun e => e.code = c) = 1 := by
    rw [← List.count_eq_one_of_mem hnodup hmem, List.count, List.countP_map]
    exact List.countP_congr fun e _ => by simp
  have hsplit := List.length_eq_countP_add_countP (fun e : FaultEntry => decide (e.code = c)) (l := es)
  rw [hcount] at hsplit
  rw [hsplit, Nat.add_comm, ← List.countP_eq_length_filter]
  simp

theorem FaultList.Sound.clear (h : l.Sound) (c : FaultCode) : (l.clear c).Sound := by
  obtain ⟨hlength, hnodup, hfull, hsorted⟩ := h
  have hlist : (l.list.map (fun e => e.code)).Nodup :=
    nodup_codes_of_sublist (List.sublist_append_left l.list l.overflow) hnodup
  by_cases hlisted : c ∈ l.list.map (fun e => e.code)
  · have hone := length_filter_code hlist hlisted
    rw [clear_of_listed hlisted]
    refine sound_promote (nodup_codes_of_sublist ?_ hnodup) (by dsimp only; omega) (fun hover => ?_) hsorted
    · exact List.filter_sublist.append (List.Sublist.refl _)
    · have := hfull hover
      dsimp only
      omega
  · rw [clear_of_not_listed hlisted]
    refine ⟨hlength, nodup_codes_of_sublist ?_ hnodup, fun hover => hfull fun hnil => hover (by simp [hnil]),
      hsorted.sublist List.filter_sublist⟩
    exact (List.Sublist.refl _).append List.filter_sublist

theorem FaultList.Sound.clearByNumber (h : l.Sound) (n : Nat) : (l.clearByNumber n).Sound := by
  unfold FaultList.clearByNumber
  split
  · exact faultsSound_nil
  · split
    · exact h.clear _
    · exact h

end

/-! ### What each operation raises -/

section
variable {s : State} {codes : List FaultCode}

theorem flushTick_raises (s : State) : RaisesAmong [.steamLow] s.flt (flushTick s).flt := by
  unfold flushTick
  split
  · exact raisesAmong_foldl (fun t k => by simp) (raisesAmong_refl _ _)
  · split <;> simp

theorem outOfServiceReport_flt (k : Fin 12) (s : State) : (outOfServiceReport k s).flt = s.flt := by
  simp

theorem takeSlot_raises (k : Fin 12) (o : SlotOutcome) (s : State) :
    RaisesAmong [.headDriveFault, .headLinkLost] s.flt (takeSlot k o s).flt := by
  cases o with
  | okReply torque angle => simp [takeSlot]
  | faultReply => simp [takeSlot, takeFaultReply]
  | missed =>
    unfold takeSlot takeMiss
    dsimp only
    (repeat' split) <;> simp

theorem noteDiscard_raises (c : DiscardCause) (s : State) : RaisesAmong [.linkNoise] s.flt (noteDiscard c s).flt := by
  unfold noteDiscard
  dsimp only
  split <;> simp

/-- The codes that a JAR frame can raise at its arrival (R19, R21). -/
def arrivalCodes : List FaultCode := [.infeedOverflow, .infeedStale, .pitchSkew]

theorem queueRecord_raises (r : JarRecord) (s : State) : RaisesAmong arrivalCodes s.flt (queueRecord r s).flt := by
  unfold queueRecord
  (repeat' split) <;> simp [arrivalCodes]

theorem jarFrameArrival_raises (payload : List Byte) (s : State) :
    RaisesAmong arrivalCodes s.flt (jarFrameArrival payload s).flt := by
  unfold jarFrameArrival recordArrival
  have hraise (c : FaultCode) (d : Byte) (hc : c ∈ arrivalCodes) : RaisesAmong arrivalCodes s.flt (s.raise c d).flt := by
    simpa using raisesAmong_raise (l := s.flt) (e := ⟨c, s.ptk.p, d⟩) hc
  split
  next r _ =>
    split
    · exact queueRecord_raises r s
    · dsimp only
      split
      · exact hraise _ _ (by decide)
      split
      · exact queueRecord_raises r s
      split <;> exact hraise _ _ (by decide)
  next => exact raisesAmong_refl _ _

theorem takeMasterPitch_raises (m : Word) (s : State) :
    RaisesAmong [.infeedStale, .pitchSkew] s.flt (takeMasterPitch m s).flt := by
  unfold takeMasterPitch
  dsimp only
  split
  · refine RaisesAmong.trans ?_ ((purgeBehind_raises _).mono (by decide))
    simp
  · split <;> simp

theorem pitchFrameArrival_raises (payload : List Byte) (s : State) :
    RaisesAmong [.infeedStale, .pitchSkew] s.flt (pitchFrameArrival payload s).flt := by
  unfold pitchFrameArrival
  split
  · split
    · exact takeMasterPitch_raises _ s
    · exact raisesAmong_refl _ _
  · exact raisesAmong_refl _ _

end

/-! ### Every command -/

theorem faultsSound_turret : KeptByTurret (fun s => s.flt.Sound) where
  raise c d s hs := by simpa using FaultList.Sound.raise hs ⟨c, s.ptk.p, d⟩
  purge s hs := (purgeBehind_raises s).sound hs
  infeed k s hs := (serveInfeed_raises k s).sound hs
  transitions k s hs := (headTransitions_raises k s).sound hs
  passOn j m s hs := (passOn_raises j m s).sound hs
  handOver k j s _ hs := by
    refine (joinOutfeed_raises j _).sound ((removeOverdue_raises _).sound ?_)
    simpa using hs

theorem faultsSound_rest : KeptByRest (fun s => s.flt.Sound) where
  clear n s hs := by simpa using FaultList.Sound.clearByNumber hs n
  warm s _ := by simpa [warmReset] using faultsSound_nil
  tick s hs := (flushTick_raises s).sound hs
  slotArrival k r s _ hs := (takeSlot_raises k _ _).sound (by simpa using hs)
  discard c s hs := (noteDiscard_raises c s).sound hs
  jarFrame payload s hs := (jarFrameArrival_raises payload s).sound hs
  pitchFrame payload s hs := (pitchFrameArrival_raises payload s).sound hs
  cold _ _ _ := faultsSound_nil

/-- Settles O53: every operation but CLEAR_FAULT and the resets only raises codes, and raising, clearing and promotion keep the
bounds and the order. -/
theorem faultListKept : Obligations.FaultListKept := by
  intro c s t hs hexec
  rw [← faultsSound_iff] at hs ⊢
  exact exec_keeps faultsSound_turret faultsSound_rest hs hexec

end Sys2Proof.Machine
end

section
/-! The completion of a jar (R124 to R132), and what every command keeps of the counters: the ranges of the Pitch Tracker,
the audit register and the tallies. -/

namespace Sys2Proof.Machine

open Sys2Proof.Claims

/-! ### The disposition (R126, R127) -/

section
variable {s : State} {j : Jar} {m : Option Int}

theorem decided_eq_dispose (cause : Option RejectCause) (k : Nat) (register : BitVec 10) :
    dispose cause k register =
      (decided cause k (auditStep register), if cause = none then auditStep register else register) := by
  cases cause with
  | none => simp [dispose, decided, auditSelects]
  | some c => simp [dispose, decided]

theorem disposeJar_eq (s : State) (j : Jar) (m : Option Int) : disposeJar s j m =
    (dispositionOf s j m, if causeFound s j m = none then auditStep s.dsu.audit else s.dsu.audit) :=
  decided_eq_dispose _ _ _

/-! ### The reject run (R129) -/

theorem countRejectRun_dsu (d : Disposition) (s : State) : (countRejectRun d s).dsu =
    { s.dsu with rejectRun := runAfter s.dsu.rejectRun (s.configWord .rejectRunLimit).toNat d } := by
  cases d with
  | pass => rfl
  | audit => rfl
  | reject c =>
    unfold countRejectRun runAfter runReached
    dsimp only
    split
    next hreached => rw [decide_eq_true hreached]; rfl
    next hbelow => rw [decide_eq_false hbelow]; rfl

/-- The fault of a disposition: REJECT_RUN with the cause, where the run reaches the limit (R129). -/
def runFaults (s : State) : Disposition → FaultList
  | .pass => s.flt
  | .audit => s.flt
  | .reject c =>
    if runReached s.dsu.rejectRun (s.configWord .rejectRunLimit).toNat (.reject c) then
      s.flt.raise ⟨.rejectRun, s.ptk.p, BitVec.ofNat 8 c.code⟩
    else s.flt

theorem countRejectRun_flt (d : Disposition) (s : State) : (countRejectRun d s).flt = runFaults s d := by
  cases d with
  | pass => rfl
  | audit => rfl
  | reject c =>
    unfold countRejectRun runFaults runReached
    dsimp only
    split
    next hreached => rw [decide_eq_true hreached]; rfl
    next hbelow => rw [decide_eq_false hbelow]; rfl

theorem completionFaults_eq (s : State) (j : Jar) (m : Option Int) : completionFaults s j m =
    if 8 ≤ s.lif.transmitQueue.length then
      (runFaults s (dispositionOf s j m)).raise ⟨.linkBlocked, s.ptk.p, lowByte j.record.pitch⟩
    else runFaults s (dispositionOf s j m) := by
  unfold completionFaults runFaults
  cases dispositionOf s j m <;> rfl

/-! ### The completion as a whole (R124) -/

/-- The state at the last step of R124, the frame. -/
def judged (j : Jar) (m : Option Int) (s : State) : State :=
  let s2 := countRejectRun (dispositionOf s j m)
    (s.setDsu { s.dsu with audit := if causeFound s j m = none then auditStep s.dsu.audit else s.dsu.audit })
  s2.setDsu { s2.dsu with tallies := addTally (dispositionOf s j m) s2.dsu.tallies }

theorem completeJar_eq (j : Jar) (m : Option Int) (s : State) : completeJar j m s =
    pushJarFrame j.record.pitch (outgoingFrame (judged j m s) (dispositionOf s j m) m j) (judged j m s) := by
  simp only [completeJar, disposeJar_eq, judged]

@[simp] theorem judged_frame (j : Jar) (m : Option Int) (s : State) :
    (judged j m s).ptk = s.ptk ∧ (judged j m s).cfg = s.cfg ∧ (judged j m s).lif = s.lif ∧
    (judged j m s).address = s.address ∧ (judged j m s).pins = s.pins := by
  simp [judged]

theorem judged_dsu (j : Jar) (m : Option Int) (s : State) : (judged j m s).dsu =
    ⟨if causeFound s j m = none then auditStep s.dsu.audit else s.dsu.audit,
      runAfter s.dsu.rejectRun (s.configWord .rejectRunLimit).toNat (dispositionOf s j m),
      addTally (dispositionOf s j m) s.dsu.tallies⟩ := by
  simp only [judged, State.setDsu_dsu, countRejectRun_dsu]
  rfl

theorem judged_flt (j : Jar) (m : Option Int) (s : State) : (judged j m s).flt = runFaults s (dispositionOf s j m) := by
  simp only [judged, State.setDsu_flt, countRejectRun_flt]
  cases dispositionOf s j m <;> rfl

/-- What a completion leaves of the Disposition Unit (R126, R127, R129, R132). -/
theorem passOn_dsu (j : Jar) (m : Option Int) (s : State) : (passOn j m s).dsu =
    ⟨if causeFound s j m = none then auditStep s.dsu.audit else s.dsu.audit,
      runAfter s.dsu.rejectRun (s.configWord .rejectRunLimit).toNat (dispositionOf s j m),
      addTally (dispositionOf s j m) s.dsu.tallies⟩ := by
  rw [← judged_dsu]
  simp [passOn, completeJar_eq]

theorem passOn_flt (j : Jar) (m : Option Int) (s : State) : (passOn j m s).flt = completionFaults s j m := by
  have hlif : (judged j m s).lif = s.lif := by simp
  rw [completionFaults_eq, ← judged_flt, ← hlif]
  simp only [passOn, releaseTag_frame, completeJar_eq, pushJarFrame]
  split
  next hroom =>
    rw [if_neg (Nat.not_le.2 hroom)]
    simp
  next hfull =>
    rw [if_pos (Nat.not_lt.1 hfull)]
    simp

theorem passOn_lif (j : Jar) (m : Option Int) (s : State) : (passOn j m s).lif =
    if s.lif.transmitQueue.length < 8 then (pushFrame (outgoingFrame s (dispositionOf s j m) m j) (judged j m s)).lif
    else s.lif := by
  have hlif : (judged j m s).lif = s.lif := by simp
  have hframe : outgoingFrame (judged j m s) (dispositionOf s j m) m j =
      outgoingFrame s (dispositionOf s j m) m j := by
    have hcfg := configWord_congr (s := s) (t := judged j m s) (by simp) .nextStation
    simp [outgoingFrame, hcfg]
  rw [← hlif, ← hframe]
  simp only [passOn, releaseTag_frame, completeJar_eq, pushJarFrame]
  split
  · rfl
  · rfl

end

/-! ### The tallies (R132) -/

section
variable {t : Vector Nat 15}

theorem getElem_bumpTally (t : Vector Nat 15) (i : Nat) (hi : i < 15) (k : Fin 15) :
    (bumpTally t i)[k.val] = if i = k.val then tallyUp t[k.val] else t[k.val] := by
  simp only [bumpTally, Vector.getElem_setIfInBounds, Vector.getElem?_eq_getElem hi, Option.getD_some]
  split
  next heq => subst heq; rfl
  next => rfl

theorem rejectCause_code_bounds (c : RejectCause) : 1 ≤ c.code ∧ c.code ≤ 12 := by cases c <;> decide

/-- A completion counts in the tallies of its disposition, and in no other. -/
theorem getElem_addTally (d : Disposition) (t : Vector Nat 15) (k : Fin 15) :
    (addTally d t)[k.val] = if countsIn k.val d then tallyUp t[k.val] else t[k.val] := by
  cases d with
  | pass => exact (getElem_bumpTally t 0 (by decide) k).trans (if_congr (by rw [countsIn, beq_iff_eq, eq_comm]) rfl rfl)
  | audit => exact (getElem_bumpTally t 1 (by decide) k).trans (if_congr (by rw [countsIn, beq_iff_eq, eq_comm]) rfl rfl)
  | reject c =>
    obtain ⟨hlow, hhigh⟩ := rejectCause_code_bounds c
    rw [addTally, getElem_bumpTally _ _ (by omega), getElem_bumpTally _ 2 (by decide)]
    by_cases h2 : k.val = 2
    · rw [if_neg (by omega), if_pos h2.symm, if_pos (by simp [countsIn, h2])]
    · rw [if_neg (Ne.symm h2)]
      exact if_congr (by rw [countsIn, Bool.or_eq_true, beq_iff_eq, beq_iff_eq, or_iff_right h2, eq_comm]) rfl rfl

theorem tallyUp_eq_counted {n : Nat} (h : n ≤ 4294967295) : tallyUp n = counted n := by
  unfold tallyUp counted
  split <;> omega

end

/-! ### The balance of the REJECT tally (R132) -/

/-- No tally is above its largest value, and the REJECT tally is the sum of the cause tallies while it has not saturated. -/
def TalliesInBalance (t : Vector Nat 15) : Prop :=
  (∀ i : Fin 15, t[i.val] ≤ 4294967295) ∧ (t[2] < 4294967295 → t[2] = (t.toList.drop 3).sum)

/-- The tally of cause i + 1. -/
def causeTally (t : Vector Nat 15) (i : Fin 12) : Nat := t[i.val + 3]

theorem sum_drop_eq (t : Vector Nat 15) : (t.toList.drop 3).sum = ∑ i, causeTally t i := by
  have hlist : t.toList.drop 3 = List.ofFn (causeTally t) := by
    refine List.ext_getElem (by simp) fun n hn hn' => ?_
    rw [List.getElem_ofFn, List.getElem_drop, Vector.getElem_toList, causeTally]
    simp only [Nat.add_comm]
  rw [hlist, List.sum_ofFn]

section
variable {t : Vector Nat 15}

theorem tallyUp_le (n : Nat) : tallyUp n ≤ 4294967295 := Nat.min_le_right _ _

theorem addTally_bounded (d : Disposition) (h : ∀ i : Fin 15, t[i.val] ≤ 4294967295) (i : Fin 15) :
    (addTally d t)[i.val] ≤ 4294967295 := by
  rw [getElem_addTally]
  split
  · exact tallyUp_le _
  · exact h i

theorem causeTally_addTally (d : Disposition) (t : Vector Nat 15) (i : Fin 12) :
    causeTally (addTally d t) i = if countsIn (i.val + 3) d then tallyUp (causeTally t i) else causeTally t i :=
  getElem_addTally d t ⟨i.val + 3, by omega⟩

/-- A PASS or an AUDIT counts in none of the tallies that the balance reads. -/
theorem addTally_keeps_balance_of_unread {d : Disposition} (hunread : ∀ i, 2 ≤ i → countsIn i d = false)
    (h : TalliesInBalance t) : TalliesInBalance (addTally d t) := by
  have hkept (k : Fin 15) (hk : 2 ≤ k.val) : (addTally d t)[k.val] = t[k.val] := by
    rw [getElem_addTally, if_neg (by simp [hunread k.val hk])]
  have hcauses : causeTally (addTally d t) = causeTally t := funext fun i => hkept ⟨i.val + 3, by omega⟩ (Nat.le_add_left 2 (i.val + 1))
  refine ⟨addTally_bounded d h.1, fun hbelow => ?_⟩
  have htotal : (addTally d t)[2] = t[2] := hkept 2 (by decide)
  rw [htotal] at hbelow ⊢
  rw [h.2 hbelow, sum_drop_eq, sum_drop_eq, hcauses]

/-- Below saturation every cause tally is below it, so a REJECT adds 1 to the total and 1 to one of its causes. -/
theorem addTally_reject_keeps_balance (c : RejectCause) (h : TalliesInBalance t) :
    TalliesInBalance (addTally (.reject c) t) := by
  obtain ⟨hbounded, hsum⟩ := h
  obtain ⟨hlow, hhigh⟩ := rejectCause_code_bounds c
  refine ⟨addTally_bounded _ hbounded, fun hbelow => ?_⟩
  have htotal : (addTally (.reject c) t)[2] = tallyUp t[2] := getElem_addTally (.reject c) t 2
  have htwo : t[2] + 1 < 4294967295 := by
    rw [htotal, tallyUp] at hbelow
    omega
  have hsum := hsum (by omega)
  rw [sum_drop_eq] at hsum
  have hcause (i : Fin 12) : causeTally (addTally (.reject c) t) i =
      causeTally t i + if i = ⟨c.code - 1, by omega⟩ then 1 else 0 := by
    have hle : causeTally t i ≤ t[2] := hsum ▸ Finset.single_le_sum (fun _ _ => Nat.zero_le _) (Finset.mem_univ i)
    have hcounts : countsIn (i.val + 3) (.reject c) = true ↔ i = ⟨c.code - 1, by omega⟩ := by
      simp only [countsIn, Bool.or_eq_true, beq_iff_eq, Fin.ext_iff]
      omega
    rw [causeTally_addTally]
    simp only [hcounts]
    split
    · rw [tallyUp]
      omega
    · rfl
  rw [htotal, sum_drop_eq, Finset.sum_congr rfl fun i _ => hcause i, Finset.sum_add_distrib, ← hsum,
    Finset.sum_ite_eq' Finset.univ, if_pos (Finset.mem_univ _), tallyUp]
  omega

theorem TalliesInBalance.addTally (h : TalliesInBalance t) (d : Disposition) : TalliesInBalance (addTally d t) := by
  cases d with
  | pass => exact addTally_keeps_balance_of_unread (fun i hi => by rw [countsIn, beq_eq_false_iff_ne]; omega) h
  | audit => exact addTally_keeps_balance_of_unread (fun i hi => by rw [countsIn, beq_eq_false_iff_ne]; omega) h
  | reject c => exact addTally_reject_keeps_balance c h

end

theorem talliesInBalance_zero : TalliesInBalance (Vector.replicate 15 0) := by
  refine ⟨fun i => ?_, fun _ => by decide⟩
  simp

theorem talliesInBalance_turret : KeptByTurret (fun s => TalliesInBalance s.dsu.tallies) where
  passOn j m s hs := by simpa [passOn_dsu] using hs.addTally _
  handOver k j s _ hs := handOver_keeps (P := fun s => TalliesInBalance s.dsu.tallies) k j (fun _ _ ht => ht)
    (fun j m t ht => by simpa [passOn_dsu] using ht.addTally _) (by simpa using hs)

theorem talliesInBalance_rest : KeptByRest (fun s => TalliesInBalance s.dsu.tallies) where
  tallies s _ := talliesInBalance_zero
  warm s hs := by simpa [warmReset] using hs
  cold _ _ _ := talliesInBalance_zero

/-! ### The audit register (R127, R128) -/

theorem auditSeed_ne_zero (v : Word) : auditSeed v ≠ 0 := by
  unfold auditSeed
  split
  · decide
  next hnonzero =>
    intro hzero
    have htoNat := congrArg BitVec.toNat hzero
    rw [BitVec.toNat_ofNat] at htoNat
    exact hnonzero htoNat

theorem passOn_audit_ne_zero {s : State} (h : s.dsu.audit ≠ 0) (j : Jar) (m : Option Int) :
    (passOn j m s).dsu.audit ≠ 0 := by
  rw [passOn_dsu]
  dsimp only
  split
  · exact auditStep_ne_zero h
  · exact h

theorem auditNonzero_turret : KeptByTurret (fun s => s.dsu.audit ≠ 0) where
  passOn j m s hs := passOn_audit_ne_zero hs j m
  handOver k j s _ hs := handOver_keeps (P := fun s => s.dsu.audit ≠ 0) k j (fun _ _ ht => ht)
    (fun j m t ht => passOn_audit_ne_zero ht j m) (by simpa using hs)

theorem auditNonzero_rest : KeptByRest (fun s => s.dsu.audit ≠ 0) where
  seed v s _ := auditSeed_ne_zero v
  warm s hs := by simpa [warmReset] using hs
  cold _ _ _ := by simp [coldReset, State.reset]

/-! ### The ranges of the Pitch Tracker (R1, R5, R6) -/

/-- The counts, the timers and the speed are in their ranges. -/
def Ptk.InRange (t : Ptk) : Prop :=
  t.turret < 3600 ∧ t.backlog < 3600 ∧ t.pitchTimer ≤ 65535 ∧ t.speed ≤ 1200 ∧ t.standstill ≤ 50

section
variable {t : Ptk}

/-- The lead table, the lead, P and the sync state are none of the counters. -/
theorem Ptk.InRange.congr {t' : Ptk} (h : t.InRange) (hturret : t'.turret = t.turret) (hbacklog : t'.backlog = t.backlog)
    (htimer : t'.pitchTimer = t.pitchTimer) (hspeed : t'.speed = t.speed) (hstandstill : t'.standstill = t.standstill) :
    t'.InRange := by
  rw [InRange, hturret, hbacklog, htimer, hspeed, hstandstill]
  exact h

theorem Ptk.InRange.pitched (h : t.InRange) : t.pitched.InRange := by
  obtain ⟨hturret, hbacklog, -, hspeed, hstandstill⟩ := h
  refine ⟨hturret, hbacklog, Nat.zero_le _, ?_, hstandstill⟩
  change (if t.originPresent then speedOf t.pitchTimer else t.speed) ≤ 1200
  split
  · exact Nat.min_le_right _ _
  · exact hspeed

theorem Ptk.InRange.countMillisecond (h : t.InRange) : (countMillisecond t).InRange := by
  obtain ⟨hturret, hbacklog, -, hspeed, hstandstill⟩ := h
  refine ⟨hturret, hbacklog, Nat.min_le_right _ _, hspeed, ?_⟩
  unfold Machine.countMillisecond
  dsimp only
  split
  · exact Nat.min_le_right _ _
  · exact hstandstill

theorem Ptk.InRange.warm (h : t.InRange) : (warmPtk t).InRange :=
  ⟨h.1, h.2.1, Nat.zero_le _, Nat.zero_le _, Nat.zero_le _⟩

end

theorem ptkInRange_turret : KeptByTurret (fun s => s.ptk.InRange) where
  back s hroom hs := by
    obtain ⟨-, -, hrest⟩ := hs
    have hbacklog : s.ptk.backlog + 1 < 3600 := Nat.add_lt_of_lt_sub hroom
    simpa [Ptk.InRange, hbacklog, Nat.mod_lt] using hrest
  behind s hs := by
    obtain ⟨-, hbacklog, hrest⟩ := hs
    exact ⟨Nat.mod_lt _ (by decide), (Nat.sub_le _ _).trans_lt hbacklog, hrest⟩
  forth s _ hs := ⟨Nat.mod_lt _ (by decide), hs.2⟩
  moving s hs := by
    obtain ⟨hturret, hbacklog, htimer, hspeed, -⟩ := hs
    rw [startMoving_ptk]
    exact ⟨hturret, hbacklog, htimer, hspeed, Nat.zero_le _⟩
  track s hs := by
    have hpitched : (trackPitch s).ptk = s.ptk.pitched := by simp [trackPitch, setPitch, Ptk.pitched]
    rw [hpitched]
    exact hs.pitched
  handOver k j s _ hs := by simpa using hs

theorem ptkInRange_rest : KeptByRest (fun s => s.ptk.InRange) where
  store t i words s _ hs := by cases t <;> exact hs
  warm s hs := by
    rw [warmReset_ptk]
    exact hs.warm
  stop s hs := by
    obtain ⟨hturret, hbacklog, htimer, hspeed, -⟩ := hs
    exact ⟨hturret, hbacklog, htimer, hspeed, Nat.le_refl 50⟩
  millisecond ok s hs := hs.countMillisecond
  pitchFrame payload s hs := by
    obtain ⟨p, y, hptk⟩ := pitchFrameArrival_ptk payload s
    rw [hptk]
    exact hs
  cold _ _ _ := show Ptk.reset.InRange from ⟨by decide, by decide, by decide, by decide, by decide⟩

/-- Settles O55: the tracker, the audit register and the tallies are each kept by every operation that reaches them. -/
theorem countersKept : Obligations.CountersKept := by
  intro c s t hexec
  exact ⟨fun hs => exec_keeps ptkInRange_turret ptkInRange_rest hs hexec,
    fun hs => exec_keeps auditNonzero_turret auditNonzero_rest hs hexec,
    fun hs => exec_keeps talliesInBalance_turret talliesInBalance_rest hs hexec⟩

end Sys2Proof.Machine
end

section
/-! What every command keeps of the banks (R89, R94), of the records (R14, R130) and of the head bus (R68, R69), and the
state after cold reset. -/

namespace Sys2Proof.Machine

open Sys2Proof.Claims

/-! ### The banks -/

/-- Every valid recipe of a bank is in order (R89). -/
def WordsInOrder (words : Vector Word 160) : Prop :=
  ∀ n, n < 8 → bankField words n .valid = 1 → recipeInOrder words n = true

/-- The spare signature is current, and the LIVE and a RETIRING bank are in order (R89, R94). -/
def Rcs.Sound (r : Rcs) : Prop :=
  (r.signature = if r.retiring then 0 else bankSignature (r.bank r.live.other).words) ∧
    WordsInOrder (r.bank r.live).words ∧ (r.retiring = true → WordsInOrder (r.bank r.live.other).words)

theorem rcsSound_iff (s : State) : s.rcs.Sound ↔ SignatureCurrent s ∧ CommittedInOrder s := by
  refine and_congr_right fun _ => ⟨?_, fun h => ⟨fun n hn hvalid => ?_, fun hretiring n hn hvalid => ?_⟩⟩
  · rintro ⟨hlive, hother⟩ i n hn hrole hvalid
    obtain rfl | rfl := eq_or_eq_other i s.rcs.live
    · exact hlive n hn hvalid
    · refine hother ?_ n hn hvalid
      by_contra hspare
      exact hrole (by simp [Rcs.role, hspare])
  · exact h s.rcs.live n hn (by simp [Rcs.role]) hvalid
  · exact h s.rcs.live.other n hn (by simp [Rcs.role, hretiring]) hvalid

section
variable {r r' : Rcs}

/-- In-flight counts and cursors are none of it. -/
theorem Rcs.Sound.congr (h : r.Sound) (hlive : r'.live = r.live) (hretiring : r'.retiring = r.retiring)
    (hsignature : r'.signature = r.signature) (hwords : ∀ i, (r'.bank i).words = (r.bank i).words) : r'.Sound := by
  rw [Sound, hsignature, hretiring, hlive, hwords, hwords]
  exact h

/-- A refill leaves the LIVE bank and its copy (R94, R99, R101, R105). -/
theorem rcsSound_refill (h : WordsInOrder (r.bank r.live).words) : r.refill.Sound := by
  obtain ⟨hlive, hretiring, hsame, hcopy, hsignature, -⟩ := refill_eq r
  rw [Rcs.Sound, hretiring, hlive, hcopy, hsame, hsignature]
  exact ⟨rfl, h, fun hfalse => nomatch hfalse⟩

theorem Rcs.Sound.countUp (h : r.Sound) (i : BankId) : (r.countUp i).Sound := by
  obtain ⟨hlive, hretiring, hsignature, hwords, -⟩ := countUp_eq r i
  exact h.congr hlive hretiring hsignature hwords

theorem Rcs.Sound.countDown (h : r.Sound) (i : BankId) : (r.countDown i).Sound := by
  have hset : (r.setBank i ⟨(r.bank i).words, (r.bank i).inFlight - 1⟩).Sound :=
    h.congr (setBank_live _ _ _) (setBank_retiring _ _ _) (setBank_signature _ _ _) fun l => words_setBank_inFlight _ _ _ _
  obtain ⟨-, -, heq⟩ | ⟨-, heq⟩ := countDown_cases r i <;> rw [heq]
  · exact rcsSound_refill hset.2.1
  · exact hset

theorem Rcs.Sound.release (h : r.Sound) (j : Jar) : (r.release j).Sound := by
  obtain ⟨i, hi, -⟩ | ⟨hnone, -⟩ := countOf_cases j
  · rw [release_of_tagged _ hi]
    exact h.countDown i
  · rwa [release_of_untagged _ hnone]

theorem Rcs.Sound.warm (h : r.Sound) : (warmRcs r).Sound := by
  obtain ⟨-, hlive, -⟩ := h
  have hwords (i : BankId) : (Rcs.bank { r with a := { r.a with inFlight := 0 }, b := { r.b with inFlight := 0 } } i).words =
      (r.bank i).words := by cases i <;> rfl
  unfold warmRcs
  dsimp only
  split
  · refine rcsSound_refill ?_
    rwa [hwords]
  next hspare =>
    refine ⟨?_, ?_, fun hretiring => absurd hretiring hspare⟩
    · rw [if_neg hspare]
      rfl
    · exact (hwords r.live).symm ▸ hlive

/-- An accepted COMMIT has found no recipe out of order in the SPARE bank (R98). -/
theorem spare_of_accepted {expected : Word} (h : (commitCheck r expected).1 = .accepted) :
    r.retiring = false ∧ WordsInOrder (r.bank r.live.other).words := by
  unfold commitCheck at h
  split at h
  · cases h
  next hspare =>
    refine ⟨by simpa using hspare, fun n hn hvalid => ?_⟩
    split at h
    · cases h
    · split at h
      · cases h
      next hnone =>
        have hsome := List.find?_eq_none.1 hnone n (List.mem_range.2 hn)
        have husable : recipeUsable (r.bank r.live.other).words n = true := by simp [recipeUsable, hvalid]; omega
        simpa [husable] using hsome

theorem Rcs.Sound.commit (h : r.Sound) {expected : Word} (haccepted : (commitCheck r expected).1 = .accepted) :
    (acceptCommit r).Sound := by
  obtain ⟨-, hlive, -⟩ := h
  obtain ⟨-, hspare⟩ := spare_of_accepted haccepted
  obtain hnone | hsome := Nat.eq_zero_or_pos (r.bank r.live).inFlight
  · rw [acceptCommit_of_none_inFlight hnone]
    exact rcsSound_refill hspare
  · rw [acceptCommit_of_inFlight hsome]
    refine ⟨rfl, hspare, fun _ => ?_⟩
    rw [other_other]
    exact hlive

end

/-- The Recipe Store with new words in the bank that is not LIVE, and their signature (R94, R95). -/
def Rcs.withSpare (r : Rcs) (words : Vector Word 160) : Rcs :=
  { r.setBank r.live.other { r.bank r.live.other with words := words } with signature := bankSignature words }

theorem storeTable_spare (i : Nat) (words : List Word) (s : State) : storeTable .spare i words s =
    s.setRcs (s.rcs.withSpare (storeWords clampRecipeWord words i (s.rcs.bank s.rcs.live.other).words)) := rfl

/-- All that a store into the SPARE bank does. -/
theorem withSpare_eq (r : Rcs) (words : Vector Word 160) :
    (r.withSpare words).live = r.live ∧ (r.withSpare words).retiring = r.retiring ∧
    (r.withSpare words).signature = bankSignature words ∧ (r.withSpare words).bank r.live = r.bank r.live ∧
    (r.withSpare words).bank r.live.other = ⟨words, (r.bank r.live.other).inFlight⟩ ∧
    (r.withSpare words).readCursor = r.readCursor ∧ (r.withSpare words).writeCursor = r.writeCursor := by
  obtain ⟨x, y, live, retiring, signature, readCursor, writeCursor⟩ := r
  cases live <;> exact ⟨rfl, rfl, rfl, rfl, rfl, rfl, rfl⟩

/-- A store into the SPARE bank renews the signature, and leaves the LIVE bank (R94, R95). -/
theorem rcsSound_store {s : State} (table : Table) (i : Nat) (words : List Word)
    (htaken : writeRefusal s.rcs table = none) (h : s.rcs.Sound) : (storeTable table i words s).rcs.Sound := by
  cases table with
  | spare =>
    have hspare : s.rcs.retiring = false := by simpa [writeRefusal] using htaken
    obtain ⟨-, hinOrder, -⟩ := h
    rw [storeTable_spare, State.setRcs_rcs, Rcs.Sound]
    obtain ⟨hlive, hretiring, hsignature, hkept, hstored, -⟩ :=
      withSpare_eq s.rcs (storeWords clampRecipeWord words i (s.rcs.bank s.rcs.live.other).words)
    rw [hlive, hretiring, hsignature, hkept, hstored, hspare]
    exact ⟨rfl, hinOrder, fun hfalse => nomatch hfalse⟩
  | lead => exact h
  | config => exact h
  | live => exact h
  | retiring => exact h
  | tallies => exact h
  | sampleRing => exact h
  | heads => exact h

theorem wordBytes_zeros (n : Nat) : (List.replicate n (0 : Word)).flatMap wordBytes = List.replicate (2 * n) 0 := by
  rw [List.flatMap_replicate, show wordBytes 0 = List.replicate 2 0 by decide, List.flatten_replicate_replicate,
    Nat.mul_comm]

theorem reset_signature : Rcs.reset.signature = bankSignature (Vector.replicate 160 0) := by
  rw [Rcs.reset, bankSignature, Vector.toList_replicate, wordBytes_zeros]

/-- No recipe of a bank of zeros is valid. -/
theorem bankField_zeros (n : Nat) (f : RecipeField) : bankField (Vector.replicate 160 0) n f = 0 := by
  rw [bankField, Vector.getElem?_replicate]
  split <;> rfl

theorem rcsSound_reset : Rcs.reset.Sound := by
  refine ⟨reset_signature, fun n _ hvalid => ?_, fun hretiring => nomatch hretiring⟩
  have hzero : bankField (Rcs.reset.bank Rcs.reset.live).words n .valid = 0 := bankField_zeros n .valid
  omega

theorem rcsSound_turret : KeptByTurret (fun s => s.rcs.Sound) where
  infeed k s hs := by
    rw [serveInfeed_rcs]
    split
    · exact hs.countUp _
    · exact hs
  passOn j m s hs := by
    rw [passOn_rcs]
    exact hs.release j
  handOver k j s _ hs := handOver_keeps (P := fun s => s.rcs.Sound) k j (fun _ _ ht => ht)
    (fun j m t ht => by rw [passOn_rcs]; exact ht.release j) (by simpa using hs)

theorem rcsSound_rest : KeptByRest (fun s => s.rcs.Sound) where
  cursors read write s hs := hs.congr rfl rfl rfl fun _ => rfl
  store table i words s htaken hs := rcsSound_store table i words htaken hs
  commit expected s haccepted hs := hs.commit haccepted
  warm s hs := by
    rw [warmReset_rcs]
    exact hs.warm
  cold _ _ _ := rcsSound_reset

/-- Settles O58: a bank becomes LIVE by a COMMIT that has checked it or stays so with its words, and the signature is renewed
with every change of the SPARE bank. -/
theorem banksKept : Obligations.BanksKept := by
  intro c s t hs hexec
  rw [← rcsSound_iff] at hs ⊢
  exact exec_keeps rcsSound_turret rcsSound_rest hs hexec

/-! ### The records (R14, R130) -/

/-- A record has at most six annotations (R14). -/
def JarRecord.Short (r : JarRecord) : Prop := r.annotations.length ≤ 6

/-- Every record queued, on a head and in the line is short. -/
def RecordsOf (queue : List JarRecord) (heads : Vector Head 12) (line : List OutfeedEntry) : Prop :=
  (∀ r ∈ queue, r.Short) ∧ (∀ (k : Fin 12) (j : Jar), heads[k.val].jar = some j → j.record.Short) ∧
    ∀ e ∈ line, e.jar.record.Short

theorem recordsOf_iff (s : State) : RecordsOf s.ifq s.heads s.ofl ↔ RecordsShort s := Iff.rfl

section
variable {s t : State}

/-- What the turret does leaves every record that is held, or fewer (R130). -/
theorem RecordsOf.congr (h : RecordsOf s.ifq s.heads s.ofl) (hqueue : t.ifq ⊆ s.ifq) (hheads : AlikeHeads s t)
    (hline : t.ofl ⊆ s.ofl) : RecordsOf t.ifq t.heads t.ofl := by
  obtain ⟨hrecords, hjars, hentries⟩ := h
  refine ⟨fun r hr => hrecords r (hqueue hr), fun k j hj => ?_, fun e he => hentries e (hline he)⟩
  have hrecord := (hheads k).record
  change (t.head k).jar = some j at hj
  rw [hj, eq_comm, Option.map_some, Option.map_eq_some_iff] at hrecord
  obtain ⟨j', hj', hsame⟩ := hrecord
  exact hsame ▸ hjars k j' hj'

theorem strayRecord_short (p : Word) : (strayRecord p).Short := Nat.zero_le 6

/-- A load brings a record of the queue to the head, or the one that the station builds (R29, R30). -/
theorem recordsOf_serveInfeed (k : Fin 12) (h : RecordsOf s.ifq s.heads s.ofl) :
    RecordsOf (serveInfeed k s).ifq (serveInfeed k s).heads (serveInfeed k s).ofl := by
  obtain ⟨hrecords, hjars, hentries⟩ := h
  refine ⟨fun r hr => hrecords r (serveInfeed_ifq_subset k s hr), fun l j hj => ?_, by simpa using hentries⟩
  change ((serveInfeed k s).head l).jar = some j at hj
  by_cases hl : k = l
  · subst hl
    obtain ⟨-, r, hr, st, c, -, hhead⟩ | ⟨-, hhead | hhead⟩ := serveInfeed_head k s <;> rw [hhead] at hj
    · obtain rfl := Option.some_inj.1 hj
      exact hrecords r hr
    · cases hj
    · obtain rfl := Option.some_inj.1 hj
      exact strayRecord_short s.ptk.p
  · rw [(sameHead_serveInfeed hl s).head] at hj
    exact hjars l j hj

/-- At the exit a jar leaves its head for the line (R47, R106). -/
theorem recordsOf_handOver {k : Fin 12} {j : Jar} (hj : (s.head k).jar = some j) (h : RecordsOf s.ifq s.heads s.ofl) :
    RecordsOf (joinOutfeed j (removeOverdue (vacate k s))).ifq (joinOutfeed j (removeOverdue (vacate k s))).heads
      (joinOutfeed j (removeOverdue (vacate k s))).ofl := by
  obtain ⟨hrecords, hjars, hentries⟩ := h
  refine ⟨by simpa using hrecords, fun l j' hj' => ?_, fun e he => ?_⟩
  · change ((joinOutfeed j (removeOverdue (vacate k s))).head l).jar = some j' at hj'
    rw [head_congr (s := vacate k s) (by simp)] at hj'
    by_cases hl : k = l
    · subst hl
      simp [vacate] at hj'
    · rw [(sameHead_vacate hl s).head] at hj'
      exact hjars l j' hj'
  · have hline : (vacate k s).ofl = s.ofl := by simp
    rw [joinOutfeed_ofl, removeOverdue_ofl, List.mem_append, List.mem_singleton, hline] at he
    obtain he | rfl := he
    · have hkept : e ∈ s.ofl.filter (fun e => !overdue (vacate k s).ptk.p e) := by
        split at he
        · exact he
        · exact List.mem_of_mem_drop he
      exact hentries e (List.mem_of_mem_filter hkept)
    · exact hjars k j hj

/-- Six bytes make an annotation. -/
theorem parseAnnotations_length (bytes : List Byte) : 6 * (parseAnnotations bytes).length ≤ bytes.length := by
  fun_induction parseAnnotations bytes with
  | case1 station code a1 a0 b1 b0 rest ih =>
    simp only [List.length_cons]
    omega
  | case2 bytes _ => simp

theorem parseRecord_short {payload : List Byte} {r : JarRecord} (h : parseRecord payload = some r) : r.Short := by
  unfold parseRecord at h
  split at h
  next rest =>
    split at h
    next hlength =>
      obtain rfl := Option.some_inj.1 h
      have := parseAnnotations_length rest
      change (parseAnnotations rest).length ≤ 6
      omega
    next => cases h
  next => cases h

theorem recordsOf_queueRecord {r : JarRecord} (hr : r.Short) (h : RecordsOf s.ifq s.heads s.ofl) :
    RecordsOf (queueRecord r s).ifq (queueRecord r s).heads (queueRecord r s).ofl := by
  obtain ⟨hrecords, hjars, hentries⟩ := h
  refine ⟨fun q hq => ?_, by simpa using hjars, by simpa using hentries⟩
  unfold queueRecord at hq
  split at hq
  · obtain ⟨q', hq', rfl⟩ := List.mem_map.1 hq
    split
    · exact hr
    · exact hrecords q' hq'
  split at hq
  · obtain rfl | hq := List.mem_cons.1 ((insertRecord_perm _ _ _).mem_iff.1 hq)
    · exact hr
    · exact hrecords q hq
  · exact hrecords q hq

theorem recordsOf_jarFrameArrival (payload : List Byte) (h : RecordsOf s.ifq s.heads s.ofl) :
    RecordsOf (jarFrameArrival payload s).ifq (jarFrameArrival payload s).heads (jarFrameArrival payload s).ofl := by
  unfold jarFrameArrival
  split
  next r hparsed =>
    have hqueued := recordsOf_queueRecord (parseRecord_short hparsed) h
    unfold recordArrival
    dsimp only
    split
    · exact hqueued
    split
    · exact h
    split
    · exact hqueued
    split
    · exact h
    · exact h
  next => exact h

theorem mem_orderRecords (p : Word) (rs : List JarRecord) : orderRecords p rs ⊆ rs := fun _ hr =>
  (orderRecords_perm p rs).mem_iff.1 hr

theorem purgeBehind_ifq_subset (s : State) : (purgeBehind s).ifq ⊆ s.ifq := by
  rw [purgeBehind_ifq]
  exact fun r hr => List.mem_of_mem_filter hr

theorem pitchFrameArrival_ifq_subset (payload : List Byte) (s : State) : (pitchFrameArrival payload s).ifq ⊆ s.ifq := by
  unfold pitchFrameArrival takeMasterPitch
  split
  · split
    · dsimp only
      split
      · exact fun r hr => mem_orderRecords _ _ (purgeBehind_ifq_subset _ hr)
      · split
        · exact List.Subset.refl _
        · exact mem_orderRecords _ _
    · exact List.Subset.refl _
  · exact List.Subset.refl _

end

theorem recordsOf_turret : KeptByTurret (fun s => RecordsOf s.ifq s.heads s.ofl) where
  track s hs := hs.congr (by simpa [trackPitch, setPitch] using mem_orderRecords _ _) (alikeHeads_of_heads (by simp))
    (by simp)
  purge s hs := hs.congr (purgeBehind_ifq_subset s) (alikeHeads_of_heads (by simp)) (by simp)
  infeed k s hs := recordsOf_serveInfeed k hs
  transitions k s hs := hs.congr (by simp) (alikeHeads_headTransitions k s) (by simp)
  leave line s hline hs := hs.congr (List.Subset.refl _) (AlikeHeads.refl s) hline.subset
  handOver k j s hj hs := recordsOf_handOver hj hs

theorem recordsOf_rest : KeptByRest (fun s => RecordsOf s.ifq s.heads s.ofl) where
  service k v s hs := hs.congr (List.Subset.refl _) (alikeHeads_setHead (Head.alike_of_same rfl rfl)) (List.Subset.refl _)
  tick s hs := hs.congr (by simp) (alikeHeads_flushTick s) (by simp)
  slotArrival k reply s _ hs := RecordsOf.congr (s := endSlot s) hs (by simp) (alikeHeads_takeSlot k _ _) (by simp)
  jarFrame payload s hs := recordsOf_jarFrameArrival payload hs
  pitchFrame payload s hs :=
    hs.congr (pitchFrameArrival_ifq_subset payload s) (alikeHeads_of_heads (by simp)) (by simp)
  warm s _ := by
    refine ⟨fun r hr => ?_, fun k j hj => ?_, fun e he => ?_⟩
    · simp [warmReset] at hr
    · have hhead := warmReset_head s k
      change ((warmReset s).head k).jar = some j at hj
      rw [hhead] at hj
      cases hj
    · simp [warmReset] at he
  cold straps s _ := by
    refine ⟨(fun r hr => nomatch hr), fun k j hj => ?_, (fun e he => nomatch he)⟩
    change ((coldReset straps s).head k).jar = some j at hj
    rw [coldReset_head] at hj
    cases hj

/-! ### The head bus (R68, R69) -/

/-- The miss count, the last torque and the last angle of a head are in their ranges (R68). -/
def Spindle.InRange (v : Spindle) : Prop := v.misses ≤ 3 ∧ v.lastTorque ≤ 2047 ∧ v.lastAngle ≤ 4095

/-- The bus is in one of its 13 slots, the sync slot having no arrival, and every head in its ranges. -/
def Spu.Sound (u : Spu) : Prop :=
  u.position ≤ 12 ∧ (u.position = 0 → u.slotEnded = false) ∧ ∀ k : Fin 12, (u.heads[k.val]).InRange

theorem spuSound_iff (s : State) : s.spu.Sound ↔ HeadBusInRange s := Iff.rfl

section
variable {s t : State} {k : Fin 12}

theorem Spu.Sound.spindle (h : s.spu.Sound) (k : Fin 12) : (s.spindle k).InRange := h.2.2 k

theorem spuSound_setSpindle {v : Spindle} (h : s.spu.Sound) (hv : v.InRange) : (s.setSpindle k v).spu.Sound := by
  obtain ⟨hposition, hsync, hheads⟩ := h
  refine ⟨hposition, hsync, fun l => ?_⟩
  change ((s.setSpindle k v).spindle l).InRange
  by_cases hl : k = l
  · subst hl
    rwa [spindle_setSpindle_same]
  · rw [spindle_setSpindle_ne _ _ hl]
    exact hheads l

theorem spuSound_beginSlot {slot : Nat} (h : s.spu.Sound) (hslot : slot ≤ 12) : (s.spu.beginSlot slot).Sound :=
  ⟨hslot, fun _ => rfl, h.2.2⟩

theorem spuSound_beginLoad (h : s.spu.Sound) : (beginLoad k s).spu.Sound := spuSound_setSpindle h (h.spindle k)

theorem spuSound_clearPitchHolds (h : s.spu.Sound) : (clearPitchHolds s).spu.Sound := by
  unfold clearPitchHolds
  exact List.foldlRecOn (motive := fun t : State => t.spu.Sound) allHeads _ h fun t ht k _ =>
    spuSound_setSpindle ht (ht.spindle k)

theorem spuSound_headTransitions (h : s.spu.Sound) : (headTransitions k s).spu.Sound := by
  have hstart {u : State} (hu : u.spu.Sound) : (torqueStartPoint k u).spu.Sound := by
    unfold torqueStartPoint
    split
    · split
      · exact spuSound_setSpindle hu ⟨Nat.zero_le _, (hu.spindle k).2.1, Nat.zero_le _⟩
      · exact hu
    · exact hu
  have hbefore : (applyPoint k (closePoint k (openPoint k s))).spu = s.spu := by simp
  have hafter := hstart (u := applyPoint k (closePoint k (openPoint k s))) (hbefore ▸ h)
  simpa [headTransitions] using hafter

theorem spuSound_outOfServiceReport (h : s.spu.Sound) : (outOfServiceReport k s).spu.Sound :=
  spuSound_setSpindle h (h.spindle k)

theorem spuSound_judgeReply {j : Jar} {torque angle : Nat} (h : s.spu.Sound) :
    (judgeReply k j torque angle s).spu.Sound := by
  have hcounted (run sum : Nat) : (s.setSpindle k { s.spindle k with run := run, sum := sum }).spu.Sound :=
    spuSound_setSpindle h (h.spindle k)
  unfold judgeReply
  dsimp only
  (repeat' split) <;> simp [h, hcounted]

/-- Torque is an 11-bit and angle a 12-bit value of the reply (R71). -/
theorem spuSound_takeOkReply {torque angle : Nat} (htorque : torque ≤ 2047) (hangle : angle ≤ 4095) (h : s.spu.Sound) :
    (takeOkReply k torque angle s).spu.Sound := by
  have hlast := h.spindle k
  have htaken : (s.setSpindle k { s.spindle k with misses := 0, lastTorque := torque }).spu.Sound :=
    spuSound_setSpindle h ⟨Nat.zero_le _, htorque, hlast.2.2⟩
  unfold takeOkReply
  dsimp only
  split
  · split
    · refine spuSound_judgeReply (spuSound_setSpindle htaken ?_)
      rw [spindle_setSpindle_same]
      exact ⟨Nat.zero_le _, htorque, hangle⟩
    · exact htaken
  · exact htaken

theorem spuSound_takeMiss (h : s.spu.Sound) : (takeMiss k s).spu.Sound := by
  have hcounted : ((s.setSpindle k { s.spindle k with misses := min ((s.spindle k).misses + 1) 3 }).setHead k
      (countJarMiss (s.head k))).spu.Sound := spuSound_setSpindle h ⟨Nat.min_le_right _ _, (h.spindle k).2⟩
  unfold takeMiss
  dsimp only
  split
  · split
    · exact spuSound_outOfServiceReport hcounted
    · exact hcounted
  · exact h

theorem spuSound_takeSlot (reply : Option Reply) (h : s.spu.Sound) : (takeSlot k (slotOutcome k reply) s).spu.Sound := by
  unfold slotOutcome
  split
  · exact spuSound_takeMiss h
  next r =>
    split
    · split
      · exact spuSound_takeOkReply (Nat.le_of_lt_succ r.torque.isLt) (Nat.le_of_lt_succ r.angle.isLt) h
      · refine spuSound_outOfServiceReport (spuSound_setSpindle h ?_)
        exact ⟨Nat.zero_le _, (h.spindle k).2⟩
    · exact spuSound_takeMiss h

theorem spindle_reset_inRange (k : Fin 12) : ((Vector.replicate 12 Spindle.reset)[k.val]).InRange := by
  rw [Vector.getElem_replicate]
  exact ⟨Nat.zero_le _, Nat.zero_le _, Nat.zero_le _⟩

end

theorem spuSound_turret : KeptByTurret (fun s => s.spu.Sound) where
  holds s hs := spuSound_clearPitchHolds hs
  infeed k s hs := by
    rw [serveInfeed_spu]
    exact spuSound_beginLoad hs
  transitions k s hs := spuSound_headTransitions hs
  handOver k j s _ hs := by
    have hvacated : (vacate k s).spu.Sound := spuSound_setSpindle (s := s.setHead k _) hs (hs.spindle k)
    simpa using hvacated

theorem spuSound_rest : KeptByRest (fun s => s.spu.Sound) where
  syncSlot s hs := spuSound_beginSlot hs (Nat.zero_le 12)
  slotStart k s hs := by
    have hbegun : (s.setSpu (s.spu.beginSlot (k.val + 1))).spu.Sound := spuSound_beginSlot hs k.isLt
    exact spuSound_setSpindle hbegun (hs.spindle k)
  slotArrival k reply s hslot hs := by
    refine spuSound_takeSlot reply ⟨hs.1, fun hposition => ?_, hs.2.2⟩
    obtain ⟨hin, -⟩ := (inSlot_iff s.spu k).1 hslot
    rw [endSlot] at hposition
    exact absurd (hin.symm.trans hposition) (Nat.succ_ne_zero _)
  warm s _ := ⟨Nat.zero_le _, fun _ => rfl, spindle_reset_inRange⟩
  cold _ _ _ := ⟨Nat.zero_le _, fun _ => rfl, spindle_reset_inRange⟩

/-- Settles O59: a record is made short by the parser or by the station and is never lengthened while it is held; a spindle's
counts are set to 0, by a reply of 11 and 12 bits, or one higher up to 3. -/
theorem recordsAndHeadBusKept : Obligations.RecordsAndHeadBusKept := by
  intro c s t hexec
  exact ⟨fun hs => exec_keeps recordsOf_turret recordsOf_rest hs hexec,
    fun hs => exec_keeps spuSound_turret spuSound_rest hs hexec⟩

/-! ### The state after cold reset -/

theorem reset_head (k : Fin 12) : State.reset.head k = Head.reset := Vector.getElem_replicate k.isLt

theorem reset_valve (k : Fin 12) : State.reset.valve k = false := Vector.getElem_replicate k.isLt

theorem reset_jarsKept : JarsSound State.reset := by
  have hkept : JarsKept Rcs.reset State.reset.ptk State.reset.heads State.reset.rcs State.reset.ofl :=
    jarsKept_of_empty (s := State.reset) Rcs.reset (by decide : 0 < 3600) (by decide : 0 < 3600)
      (fun k => by rw [reset_head]; exact ⟨rfl, rfl⟩) (fun i => by cases i <;> rfl) rfl rfl
  exact (jarsOf_iff State.reset).1 hkept.1

/-- Settles O60: the state after cold reset holds no jar, no record, no frame and no fault, and both banks are zeros under
their own signature. -/
theorem resetMeetsInvariants : Obligations.ResetMeetsInvariants := by
  obtain ⟨hmatched, hcounts, hplaces⟩ := (jarsSound_iff _).1 reset_jarsKept
  have hfaults : FaultListBounded State.reset ∧ OverflowSorted State.reset := (faultsSound_iff _).1 faultsSound_nil
  have hbanks : SignatureCurrent State.reset ∧ CommittedInOrder State.reset := (rcsSound_iff State.reset).1 rcsSound_reset
  have hrecords : RecordsShort State.reset := by
    refine ⟨(fun r hr => nomatch hr), fun k j hj => ?_, (fun e he => nomatch he)⟩
    rw [reset_head] at hj
    cases hj
  have hvalves : ValvesFollow State.reset := fun k => by
    rw [reset_valve, reset_head]
    exact iff_of_false Bool.false_ne_true (by rintro ⟨hflushing, -⟩; cases hflushing)
  have hjars : JarsConsistent State.reset := fun k j hj => by
    rw [reset_head] at hj
    cases hj
  have hopen : OpenValvesFlush State.reset := fun k hk => by
    rw [reset_valve] at hk
    cases hk
  exact ⟨hfaults.1, hfaults.2, ⟨by decide, by decide, by decide, by decide⟩, fun _ _ => ⟨rfl, rfl⟩, Nat.zero_le 20,
    ⟨Nat.zero_le 24, List.Pairwise.nil⟩, by decide, by decide, hmatched, hcounts, hplaces, hvalves, hjars, hbanks.1, hbanks.2,
    talliesInBalance_zero, hopen, hrecords, Nat.zero_le 12, fun _ => rfl, spindle_reset_inRange⟩

end Sys2Proof.Machine
end

section
/-! A removed jar is passed on whole (R109, R124): by the removals of a pitch event, one after the other, and by a measurement
that matches its entry. -/

namespace Sys2Proof.Machine

open Sys2Proof.Claims

/-! ### The outgoing record (R130, R131) -/

section
variable {s : State} {j : Jar} {m : Option Int}

/-- A list of six annotations loses its oldest, a shorter one none (R130). -/
theorem appendAnnotation_of_short {l : List Annotation} (h : l.length ≤ 6) (a : Annotation) :
    appendAnnotation l a = l.drop (l.length - 5) ++ [a] := by
  unfold appendAnnotation
  split
  next hsix => rw [show l.length - 5 = 1 by omega]
  next hfew => rw [show l.length - 5 = 0 by omega, List.drop_zero]

theorem outgoingRecord_eq (h : j.record.Short) :
    outgoingRecord s.address (dispositionOf s j m) m j = sentRecord s j m := by
  unfold outgoingRecord sentRecord
  rw [appendAnnotation_of_short h]
  cases dispositionOf s j m <;> cases m <;> rfl

theorem outgoingFrame_eq (h : j.record.Short) : outgoingFrame s (dispositionOf s j m) m j = sentFrame s j m := by
  rw [outgoingFrame, outgoingRecord_eq h]
  rfl

/-! ### The release of the bank (R92, R101) -/

theorem released_countDown (r : Rcs) (i : BankId) :
    (r.countDown i).live = r.live ∧ (r.countDown i).readCursor = r.readCursor ∧
    (r.countDown i).writeCursor = r.writeCursor ∧ ((r.countDown i).bank i).inFlight = (r.bank i).inFlight - 1 ∧
    ((r.countDown i).bank i.other).inFlight = (r.bank i.other).inFlight ∧
    (r.role i = .retiring → (r.bank i).inFlight = 1 →
      (r.countDown i).role i = .spare ∧ (∀ l, ((r.countDown i).bank l).words = (r.bank r.live).words) ∧
      (r.countDown i).signature = bankSignature (r.bank r.live).words) ∧
    (r.role i ≠ .retiring ∨ 2 ≤ (r.bank i).inFlight →
      (r.countDown i).retiring = r.retiring ∧ (r.countDown i).signature = r.signature ∧
      ∀ l, ((r.countDown i).bank l).words = (r.bank l).words) := by
  have hcount : ((r.setBank i ⟨(r.bank i).words, (r.bank i).inFlight - 1⟩).bank i).inFlight = (r.bank i).inFlight - 1 := by
    rw [bank_setBank_same]
  have hother : (r.setBank i ⟨(r.bank i).words, (r.bank i).inFlight - 1⟩).bank i.other = r.bank i.other := by
    rw [bank_setBank, if_neg (other_ne i)]
  obtain ⟨hrole, hlast, hdown⟩ | ⟨hstays, hdown⟩ := countDown_cases r i <;> rw [hdown]
  · have hi : i = r.live.other := by
      obtain hlive | hother := eq_or_eq_other i r.live
      · simp [Rcs.role, hlive] at hrole
      · exact hother
    obtain ⟨hlive, hretiring, hsame, hcopy, hsignature, hread, hwrite⟩ :=
      refill_eq (r.setBank i ⟨(r.bank i).words, (r.bank i).inFlight - 1⟩)
    rw [setBank_live] at hlive hsame hcopy hsignature
    have hkept : (r.setBank i ⟨(r.bank i).words, (r.bank i).inFlight - 1⟩).bank r.live = r.bank r.live := by
      rw [bank_setBank, if_neg (hi ▸ (other_ne r.live).symm)]
    rw [hkept] at hsame hcopy hsignature
    refine ⟨hlive, hread.trans (setBank_readCursor _ _ _), hwrite.trans (setBank_writeCursor _ _ _),
      (refill_inFlight _ i).trans hcount, (refill_inFlight _ _).trans (congrArg Bank.inFlight hother),
      fun _ _ => ⟨?_, fun l => ?_, hsignature⟩, fun hneither => ?_⟩
    · rw [Rcs.role, hlive, hretiring, if_neg (hi ▸ other_ne r.live)]
      rfl
    · obtain rfl | rfl := eq_or_eq_other l r.live
      · rw [hsame]
      · rw [hcopy]
    · exact absurd hneither (by rintro (hnot | htwo); exacts [hnot hrole, by omega])
  · refine ⟨setBank_live _ _ _, setBank_readCursor _ _ _, setBank_writeCursor _ _ _, hcount,
      congrArg Bank.inFlight hother, fun hrole hlast => absurd ⟨hrole, hlast.le⟩ hstays,
      fun _ => ⟨setBank_retiring _ _ _, setBank_signature _ _ _, fun l => words_setBank_inFlight _ _ _ _⟩⟩

theorem released_release (r : Rcs) (j : Jar) : Released r (r.release j) j := by
  constructor
  · intro huntagged
    refine release_of_untagged r fun i => ?_
    rw [← Bool.not_eq_true, taggedWith_iff]
    rintro ⟨htracked, htag⟩
    simp [htracked, htag] at huntagged
  · intro i htracked htag
    rw [release_of_tagged r ((taggedWith_iff i j).2 ⟨htracked, htag⟩)]
    exact released_countDown r i

/-! ### One jar passed on -/

theorem pushed_passOn (hserved : PortServed s) (hshort : j.record.Short) :
    Pushed s (sentFrame s j m) (passOn j m s).lif := by
  obtain ⟨-, -, hlif, -, hpins⟩ := judged_frame j m s
  have hpushed := pushed_pushFrame (s := judged j m s) (f := sentFrame s j m) (by rwa [PortServed, hlif, hpins])
    (show kindJar ≠ kindPitch by decide)
  rw [Pushed, hlif, hpins] at hpushed
  rw [passOn_lif, outgoingFrame_eq hshort]
  split
  next => exact hpushed
  next hfull => rw [Pushed, if_pos (Nat.not_lt.1 hfull)]

theorem disposedAs_passOn (hbounded : TalliesBounded s) : DisposedAs s (passOn j m s) j m := by
  rw [DisposedAs, passOn_dsu]
  refine ⟨rfl, rfl, fun i => ?_⟩
  rw [getElem_addTally]
  exact if_congr Iff.rfl (tallyUp_eq_counted (hbounded i)) rfl

/-- A jar removed from the line is passed on whole (R109, R124). -/
theorem passedOn_passOn (hserved : PortServed s) (hshort : j.record.Short) (hbounded : TalliesBounded s) :
    PassedOn s (passOn j m s) j m := by
  refine ⟨?_, disposedAs_passOn hbounded, pushed_passOn hserved hshort, ?_⟩
  · apply state_eq
    case hflt => exact passOn_flt j m s
    all_goals simp
  · rw [passOn_rcs]
    exact released_release s.rcs j

end

/-! ### Jars passed on one after the other (R108) -/

section
variable {s t u : State} {es es' : List OutfeedEntry} {e : OutfeedEntry} {line : List OutfeedEntry}

/-- The Outfeed Line itself is no part of it. -/
theorem PassedOn.setOfl {j : Jar} {m : Option Int} (h : PassedOn s t j m) (line : List OutfeedEntry) :
    PassedOn (s.setOfl line) (t.setOfl line) j m := by
  obtain ⟨hstate, hdisposed, hpushed, hreleased⟩ := h
  exact ⟨congrArg (fun x => x.setOfl line) hstate, hdisposed, hpushed, hreleased⟩

theorem PassedOnInOrder.setOfl (h : PassedOnInOrder es s t) (line : List OutfeedEntry) :
    PassedOnInOrder es (s.setOfl line) (t.setOfl line) := by
  induction es generalizing s with
  | nil => exact congrArg (fun x => x.setOfl line) h
  | cons e rest ih =>
    obtain ⟨u, hfirst, hrest⟩ := h
    exact ⟨u.setOfl line, PassedOn.setOfl hfirst line, ih hrest⟩

theorem PassedOnInOrder.append (h : PassedOnInOrder es s t) (h' : PassedOnInOrder es' t u) :
    PassedOnInOrder (es ++ es') s u := by
  induction es generalizing s with
  | nil => exact (show t = s from h) ▸ h'
  | cons e rest ih =>
    obtain ⟨v, hfirst, hrest⟩ := h
    exact ⟨v, hfirst, ih hrest⟩

/-- What a removal needs of the state, and keeps of it. -/
structure ReadyToPass (s : State) : Prop where
  served : PortServed s
  bounded : TalliesBounded s

theorem ReadyToPass.congr (h : ReadyToPass s) (hlif : t.lif = s.lif) (hpins : t.pins.downstreamHold = s.pins.downstreamHold)
    (hdsu : t.dsu = s.dsu) : ReadyToPass t where
  served := by rw [PortServed, hlif, hpins]; exact h.served
  bounded := by rw [TalliesBounded, hdsu]; exact h.bounded

theorem portServed_pushFrame (f : Frame) (h : PortServed s) : PortServed (pushFrame f s) := by
  unfold pushFrame
  split
  · exact lifServed_runArbiterIfIdle _
  · exact h

theorem ReadyToPass.passOn (h : ReadyToPass s) (j : Jar) (m : Option Int) : ReadyToPass (passOn j m s) where
  served := by
    obtain ⟨-, -, hlif, -, hpins⟩ := judged_frame j m s
    have hpassed : (Machine.passOn j m s).pins = s.pins := by simp
    rw [PortServed, passOn_lif, hpassed]
    split
    · have hpushed := portServed_pushFrame (s := judged j m s) (outgoingFrame s (dispositionOf s j m) m j)
        (by rw [PortServed, hlif, hpins]; exact h.served)
      rw [PortServed, (pushFrame_frame _ _).2.2.2.2.2.2.2.2.2.2.2.2.1, hpins] at hpushed
      exact hpushed
    · exact h.served
  bounded := by
    rw [TalliesBounded, passOn_dsu]
    exact addTally_bounded _ h.bounded

theorem passedOnInOrder_foldl (h : ReadyToPass s) (hshort : ∀ e ∈ es, e.jar.record.Short) :
    PassedOnInOrder es s (es.foldl (fun t e => passOn e.jar none t) s) ∧
    ReadyToPass (es.foldl (fun t e => passOn e.jar none t) s) := by
  induction es generalizing s with
  | nil => exact ⟨rfl, h⟩
  | cons e rest ih =>
    obtain ⟨hrest, hready⟩ := ih (h.passOn e.jar none) fun e' he' => hshort e' (List.mem_cons_of_mem e he')
    exact ⟨⟨_, passedOn_passOn h.served (hshort e List.mem_cons_self) h.bounded, hrest⟩, hready⟩

end

/-! ### The removals of a pitch event (R107, R108) -/

section
variable {s w : State} {k : Fin 12}

theorem overdue_eq (p : Word) : overdue p = fun e => decide (Late p e) := by
  funext e
  simp only [overdue, ahead, Late]

/-- The overdue entries pass on in order, from the state that the removal finds. -/
theorem removeOverdue_passes (h : ReadyToPass w) (hshort : ∀ e ∈ w.ofl, e.jar.record.Short) :
    PassedOnInOrder (w.ofl.filter (fun e => decide (Late w.ptk.p e))) (w.setOfl (keptAt w.ptk.p w.ofl))
      (removeOverdue w) ∧ ReadyToPass (removeOverdue w) := by
  have hkept : w.ofl.filter (fun e => !overdue w.ptk.p e) = keptAt w.ptk.p w.ofl := by
    rw [← removeOverdue_ofl, removeOverdue_ofl_eq]
  rw [removeOverdue, hkept, overdue_eq]
  exact passedOnInOrder_foldl (s := w.setOfl (keptAt w.ptk.p w.ofl)) ⟨h.served, h.bounded⟩
    fun e he => hshort e (List.mem_of_mem_filter he)

/-- Where a jar is to join, the oldest of a line of 20 passes on as well (R107). -/
theorem makeRoom_passes (h : ReadyToPass w) (hshort : ∀ e ∈ w.ofl, e.jar.record.Short) :
    ∃ line, PassedOnInOrder (if 20 ≤ w.ofl.length then w.ofl.take 1 else []) (w.setOfl line) (makeRoom w) := by
  by_cases hfull : 20 ≤ w.ofl.length
  · obtain ⟨e, rest, hline⟩ : ∃ e rest, w.ofl = e :: rest := List.exists_cons_of_length_pos (by omega)
    have hroom : makeRoom w = passOn e.jar none (w.setOfl rest) := by
      simp only [makeRoom, hline]
      exact if_pos (hline ▸ hfull)
    rw [if_pos hfull, hroom, hline]
    exact ⟨rest, _, passedOn_passOn (s := w.setOfl rest) h.served (hshort e (hline ▸ List.mem_cons_self)) h.bounded, rfl⟩
  · have hroom : makeRoom w = w := by
      unfold makeRoom
      split
      · exact if_neg hfull
      · rfl
    rw [if_neg hfull, hroom]
    exact ⟨w.ofl, rfl⟩

/-- Both removals where a jar joins, from one state. -/
theorem joinOutfeed_passes (h : ReadyToPass w) (hshort : ∀ e ∈ w.ofl, e.jar.record.Short) :
    ∃ line, PassedOnInOrder (w.ofl.filter (fun e => decide (Late w.ptk.p e)) ++
      (if 20 ≤ (keptAt w.ptk.p w.ofl).length then (keptAt w.ptk.p w.ofl).take 1 else [])) (w.setOfl line)
      (makeRoom (removeOverdue w)) := by
  obtain ⟨hoverdue, hready⟩ := removeOverdue_passes h hshort
  obtain ⟨line, hroom⟩ := makeRoom_passes hready fun e he => hshort e (by
    rw [removeOverdue_ofl] at he
    exact List.mem_of_mem_filter he)
  rw [removeOverdue_ofl_eq] at hroom
  exact ⟨line, PassedOnInOrder.append (PassedOnInOrder.setOfl hoverdue line) hroom⟩

end

/-! ### Around the removals -/

section
variable {eye : Bool} {caps : BitVec 12} {s : State}

/-- The queue that the infeed finds opens with a record level with P when it holds one, whatever else it holds (R18, R27). -/
theorem oldestLevel_readyToServe_isSome (eye : Bool) (caps : BitVec 12) (s : State) :
    (oldestLevel (readyToServe eye caps s)).isSome = true ↔ ∃ r ∈ s.ifq, r.pitch = s.ptk.p + 1 := by
  have hordered : (readyToServe eye caps s).ifq.Pairwise
      (fun a b => recordOffset (s.ptk.p + 1) a ≤ recordOffset (s.ptk.p + 1) b) := by
    obtain ⟨-, hsync, hifq, -⟩ := repitched_finds (beforePitch eye caps s)
    obtain ⟨hp, -, -, -⟩ := beforePitch_finds eye caps s
    have hrepitched : (repitched (beforePitch eye caps s)).ifq.Pairwise
        (fun a b => recordOffset (s.ptk.p + 1) a ≤ recordOffset (s.ptk.p + 1) b) := by
      rw [hifq, hp]
      exact orderRecords_pairwise _ _
    unfold readyToServe purgeIfSynced
    split
    · rw [purgeBehind_ifq]
      exact hrepitched.sublist List.filter_sublist
    · exact hrepitched
  rw [Option.isSome_iff_exists]
  constructor
  · rintro ⟨r, hr⟩
    obtain ⟨rest, hqueue, hlevel⟩ := oldestLevel_eq_some.1 hr
    have hmem : r ∈ (readyToServe eye caps s).ifq := hqueue ▸ List.mem_cons_self
    exact ⟨r, ((mem_readyToServe_ifq eye caps s r).1 hmem).1, hlevel.trans (readyToServe_p eye caps s)⟩
  · rintro ⟨r, hr, hlevel⟩
    have hmem : r ∈ (readyToServe eye caps s).ifq :=
      (mem_readyToServe_ifq eye caps s r).2 ⟨hr, fun _ => by rw [hlevel, behind_self]⟩
    obtain ⟨first, rest, hqueue⟩ := List.exists_cons_of_ne_nil (List.ne_nil_of_mem hmem)
    have hzero : recordOffset (s.ptk.p + 1) r = 0 := by simp [recordOffset, hlevel]
    have hfirst : recordOffset (s.ptk.p + 1) first = recordOffset (s.ptk.p + 1) r := by
      rw [hqueue] at hmem hordered
      obtain rfl | hrest := List.mem_cons.1 hmem
      · rfl
      · have hle := List.rel_of_pairwise_cons hordered hrest
        omega
    refine ⟨first, oldestLevel_eq_some.2 ⟨rest, hqueue, ?_⟩⟩
    rw [(recordOffset_inj (s.ptk.p + 1) first r).1 hfirst, hlevel, readyToServe_p]

theorem countUp_live (r : Rcs) : r.countUp r.live = loadCounted r := by
  obtain ⟨x, y, live, retiring, signature, readCursor, writeCursor⟩ := r
  cases live <;> rfl

/-- The Recipe Store after the load of a pitch event (R92). -/
theorem beforeExit_rcs (eye : Bool) (caps : BitVec 12) (s : State) : (beforeExit eye caps s).rcs =
    if eye = true ∧ ∃ r ∈ s.ifq, r.pitch = s.ptk.p + 1 then loadCounted s.rcs else s.rcs := by
  rw [beforeExit, serveInfeed_rcs, readyToServe_rcs, countUp_live]
  refine if_congr ?_ rfl rfl
  rw [oldestLevel_readyToServe_isSome, readyToServe_eye, and_comm]

/-- Raises of other codes carry every entry, and leave the two codes of a completion. -/
theorem faultsCarried_of_raises {s t : State} {codes : List FaultCode} (h : RaisesAmong codes s.flt t.flt)
    (hrun : FaultCode.rejectRun ∉ codes) (hblocked : FaultCode.linkBlocked ∉ codes) : FaultsCarried s t :=
  ⟨fun _ hf => h.held_subset hf, h.active_eq hrun, h.active_eq hblocked⟩

/-- What the removals of a pitch event find: the state after the load, with the points of the head at the exit passed and the
head itself left or not, whatever the line. -/
def FindsLoaded (eye : Bool) (s u : State) : Prop :=
  u.dsu = s.dsu ∧ u.lif = s.lif ∧ u.cfg = s.cfg ∧ u.address = s.address ∧ u.ptk.p = s.ptk.p + 1 ∧
    u.pins.downstreamHold = s.pins.downstreamHold ∧
    u.rcs = (if eye = true ∧ ∃ r ∈ s.ifq, r.pitch = s.ptk.p + 1 then loadCounted s.rcs else s.rcs) ∧ FaultsCarried s u

theorem findsLoaded_atExit (eye : Bool) (caps : BitVec 12) (s : State) (k : Fin 12) :
    FindsLoaded eye s (headTransitions k (beforeExit eye caps s)) := by
  obtain ⟨hp, -, hcfg⟩ := beforeExit_blocks eye caps s
  have hraises : RaisesAmong (.infeedStale :: infeedCodes ++ capCodes) s.flt
      (headTransitions k (beforeExit eye caps s)).flt :=
    ((raises_before_exit eye caps s).mono (by simp)).trans ((headTransitions_raises k _).mono (by simp))
  refine ⟨?_, ?_, ?_, ?_, ?_, ?_, ?_, faultsCarried_of_raises hraises (by decide) (by decide)⟩
  · simp [beforeExit, readyToServe_frame]
  · simp [beforeExit, readyToServe_frame]
  · simpa using hcfg
  · simp [beforeExit, readyToServe_frame]
  · simpa using hp
  · simp [beforeExit, readyToServe_frame]
  · rw [← beforeExit_rcs eye caps s]
    simp

theorem FindsLoaded.vacate {u : State} (h : FindsLoaded eye s u) (k : Fin 12) : FindsLoaded eye s (vacate k u) := by
  simpa [FindsLoaded, FaultsCarried] using h

theorem FindsLoaded.setOfl {u : State} (h : FindsLoaded eye s u) (line : List OutfeedEntry) :
    FindsLoaded eye s (u.setOfl line) := h

theorem FindsLoaded.ready {u : State} (h : FindsLoaded eye s u) (hready : ReadyToPass s) : ReadyToPass u := by
  obtain ⟨hdsu, hlif, -, -, -, hhold, -⟩ := h
  exact hready.congr hlif hhold hdsu

/-- What the serving of the exit leaves of the blocks that the removals reach. -/
def LeavesPassed (eye : Bool) (s : State) (k : Fin 12) (w : State) : Prop :=
  ∃ u v, FindsLoaded eye s u ∧ PassedOnInOrder (removedAt s k) u v ∧
    w.dsu = v.dsu ∧ w.rcs = v.rcs ∧ w.lif = v.lif ∧ w.flt = v.flt

section
variable {w : State} {k : Fin 12} {j : Jar}

/-- A jar leaves the head: the overdue entries pass on, then the one that makes room (R107, R108). -/
theorem leavesPassed_join (h : FindsLoaded eye s w) (hofl : w.ofl = s.ofl) (hjar : (s.head k).jar ≠ none)
    (hready : ReadyToPass s) (hshort : ∀ e ∈ s.ofl, e.jar.record.Short) :
    LeavesPassed eye s k (joinOutfeed j (removeOverdue (vacate k w))) := by
  have hvacated := h.vacate k
  have hline : (vacate k w).ofl = s.ofl := by simpa using hofl
  have hp : (vacate k w).ptk.p = s.ptk.p + 1 := hvacated.2.2.2.2.1
  obtain ⟨line, hpasses⟩ := joinOutfeed_passes (hvacated.ready hready) (hline ▸ hshort)
  rw [hline, hp] at hpasses
  have hremoved : removedAt s k = s.ofl.filter (fun e => decide (Late (s.ptk.p + 1) e)) ++
      (if 20 ≤ (keptAt (s.ptk.p + 1) s.ofl).length then (keptAt (s.ptk.p + 1) s.ofl).take 1 else []) := by
    simp [removedAt, hjar]
  rw [← hremoved] at hpasses
  exact ⟨_, _, hvacated.setOfl line, hpasses, rfl, rfl, rfl, rfl⟩

/-- No jar leaves the head: the overdue entries pass on (R108). -/
theorem leavesPassed_alone (h : FindsLoaded eye s w) (hofl : w.ofl = s.ofl) (hjar : (s.head k).jar = none)
    (hready : ReadyToPass s) (hshort : ∀ e ∈ s.ofl, e.jar.record.Short) : LeavesPassed eye s k (removeOverdue w) := by
  have hp : w.ptk.p = s.ptk.p + 1 := h.2.2.2.2.1
  obtain ⟨hpasses, -⟩ := removeOverdue_passes (h.ready hready) (hofl ▸ hshort)
  rw [hofl, hp] at hpasses
  have hremoved : removedAt s k = s.ofl.filter (fun e => decide (Late (s.ptk.p + 1) e)) := by
    simp [removedAt, hjar]
  rw [← hremoved] at hpasses
  exact ⟨_, _, h.setOfl _, hpasses, rfl, rfl, rfl, rfl⟩

/-- The points of R38 leave a jar on its head, and none where there was none. -/
theorem headTransitions_jar (k : Fin 12) (w : State) : ((headTransitions k w).head k).jar = none ↔ (w.head k).jar = none := by
  have hrecord := (alikeHeads_headTransitions k w k).record
  rw [← Option.map_eq_none_iff (f := Jar.record), hrecord, Option.map_eq_none_iff]

end

theorem leavesPassed_beforeHeads (hdue : PitchDue s) (hready : ReadyToPass s)
    (hshort : ∀ e ∈ s.ofl, e.jar.record.Short) : LeavesPassed eye s (infeedAt s + 2) (beforeHeads eye caps s) := by
  have hfound := findsLoaded_atExit eye caps s (infeedAt s + 2)
  have hofl : (headTransitions (infeedAt s + 2) (beforeExit eye caps s)).ofl = s.ofl := by
    simpa using (beforeExit_blocks eye caps s).2.1
  have hjar := headTransitions_jar (infeedAt s + 2) (beforeExit eye caps s)
  rw [(beforeExit_head eye caps s).1] at hjar
  rw [beforeHeads_eq_exit hdue, serveExit]
  split
  next j hj =>
    refine leavesPassed_join hfound hofl (fun hnone => ?_) hready hshort
    rw [hjar.2 hnone] at hj
    cases hj
  next hnone => exact leavesPassed_alone hfound hofl (hjar.1 hnone) hready hshort

/-- Settles O13: the removals of a pitch event are passed on by `passOn`, each from what the one before leaves, and the steps
around them leave the blocks that they reach. -/
theorem overdueJarCompleted : Obligations.OverdueJarCompleted := by
  intro eye caps s k hdue _ hserved hshort hbounded hangle
  obtain rfl := (angle_eq_exit_iff hdue k).1 hangle
  obtain ⟨u, v, ⟨hdsu, hlif, hcfg, haddress, hp, hhold, hrcs, hfaults⟩, hpasses, hdsu', hrcs', hlif', hflt'⟩ :=
    leavesPassed_beforeHeads (eye := eye) (caps := caps) hdue ⟨hserved, hbounded⟩ hshort.2.2
  have hraises := allTransitions_raises (beforeHeads eye caps s)
  rw [hflt'] at hraises
  refine ⟨_, u, v, exec_forward hdue.1, hdsu, hlif, hcfg, haddress, hp, hhold, hrcs, hfaults, hpasses, ?_, ?_, ?_,
    faultsCarried_of_raises hraises (by decide) (by decide)⟩
  · simpa using hdsu'
  · simpa using hrcs'
  · simpa using hlif'

end

/-! ### A measurement (R114, R115) -/

section
variable {s : State}

/-- The eighth sample: the window CLOSED, the clamped samples reported, and then the match. -/
theorem exec_eighthSample (x : BitVec 13) (samples : List Int) (n : Nat) (hwindow : s.scu.window = .collecting samples n)
    (hseven : samples.length = 7) :
    exec (.sensorSampleArrival x) s = .next (completeMeasurement (samples ++ [clampSample x.toInt])
      (if x.toInt < -500 ∨ 2500 < x.toInt then n + 1 else n)
      (s.setScu { writeRing (clampSample x.toInt) s.scu with window := .closed })) := by
  rw [← takeSample_of_seven hwindow hseven]
  rfl

/-- Before the match SENSOR_SATURATED has been raised or not (R114). -/
theorem completeMeasurement_eq (samples : List Int) (clamped : Nat) (u : Scu) (s : State) :
    completeMeasurement samples clamped (s.setScu u) = matchMeasurement samples ((s.setScu u).setFlt
      (if 1 ≤ clamped then s.flt.raise ⟨.sensorSaturated, s.ptk.p, BitVec.ofNat 8 clamped⟩ else s.flt)) := by
  unfold completeMeasurement
  split <;> rfl

theorem matchMeasurement_of_empty (samples : List Int) (hline : s.ofl = []) :
    matchMeasurement samples s = s.raise .sensorUnmatched 0 := by
  rw [matchMeasurement, hline]

theorem matchMeasurement_of_early (samples : List Int) {e : OutfeedEntry} {rest : List OutfeedEntry}
    (hline : s.ofl = e :: rest) (hahead : ahead e.duePitch (s.ptk.p + 1) = true) :
    matchMeasurement samples s = s.raise .sensorUnmatched (lowByte e.duePitch) := by
  simp only [matchMeasurement, hline, hahead, if_true]

theorem matchMeasurement_of_due (samples : List Int) {e : OutfeedEntry} {rest : List OutfeedEntry}
    (hline : s.ofl = e :: rest) (hdue : ahead e.duePitch (s.ptk.p + 1) = false) :
    matchMeasurement samples s = passOn e.jar (some (trimmedMean samples)) (s.setOfl rest) := by
  simp only [matchMeasurement, hline, hdue, Bool.false_eq_true, if_false]

/-- Settles O24: the measurement finds no entry, or one not yet due. -/
theorem measurementUnmatched : Obligations.MeasurementUnmatched := by
  intro x s samples n hwindow hseven clamped flt
  refine ⟨fun hline => ⟨_, exec_eighthSample x samples n hwindow hseven, ?_⟩,
    fun e rest hline hahead => ⟨_, exec_eighthSample x samples n hwindow hseven, ?_⟩⟩ <;> rw [completeMeasurement_eq]
  · rw [matchMeasurement_of_empty _ (by exact hline)]
    rfl
  · rw [matchMeasurement_of_early (e := e) (rest := rest) _ (by exact hline) (by exact hahead)]
    rfl

/-- Settles O25: the oldest entry is due and leaves, and its jar is passed on with the trimmed mean. -/
theorem measurementMatched : Obligations.MeasurementMatched := by
  intro x s samples n e rest hwindow hseven hline hdue hserved hshort hbounded clamped
  have hentry : e.jar.record.Short := hshort.2.2 e (hline ▸ List.mem_cons_self)
  refine ⟨_, exec_eighthSample x samples n hwindow hseven, ?_⟩
  rw [completeMeasurement_eq, matchMeasurement_of_due (e := e) (rest := rest) _ (by exact hline) (by exact hdue)]
  set u : State := ((s.setScu { writeRing (clampSample x.toInt) s.scu with window := .closed }).setFlt
    (if 1 ≤ clamped then s.flt.raise ⟨.sensorSaturated, s.ptk.p, BitVec.ofNat 8 clamped⟩ else s.flt)).setOfl rest with hu
  have hpassed : PassedOn u (passOn e.jar (some (trimmedMean (samples ++ [clampSample x.toInt]))) u) e.jar
      (some (trimmedMean (samples ++ [clampSample x.toInt]))) := passedOn_passOn hserved hentry hbounded
  have hscu : (passOn e.jar (some (trimmedMean (samples ++ [clampSample x.toInt]))) u).scu = u.scu := by simp
  rw [hscu]
  exact hpassed

end

end Sys2Proof.Machine
end

section
/-! The replies of the head bus (R72 to R75), the millisecond and the standstill (R5, R6, R58, R59, R62), the warm reset
(R158) and the step. -/

namespace Sys2Proof.Machine

open Sys2Proof.Claims

/-- Settles O1: both rows are the rows of `step`. -/
theorem stepTakesFrontCommand : Obligations.StepTakesFrontCommand := by
  constructor
  · intro c rest s hqueue
    rw [step, hqueue]
    rfl
  · intro s hempty
    rw [step, hempty]

/-! ### The replies (R72 to R75) -/

section
variable {s : State} {k : Fin 12} {r : Reply}

theorem slotOutcome_of_ok (hvalid : Valid k r) (hok : r.status = .ok) :
    slotOutcome k (some r) = .okReply r.torque.toNat r.angle.toNat := by
  obtain ⟨hhead, hcheck⟩ := hvalid
  simp [slotOutcome, hhead, replyCheckPasses, hcheck, hok]

theorem slotOutcome_of_invalid (h : ¬Valid k r) : slotOutcome k (some r) = .missed := by
  simp only [slotOutcome, replyCheckPasses, beq_iff_eq]
  exact if_neg h

/-- An OK reply that is not judged (R73). -/
theorem takeOkReply_of_unjudged {torque angle : Nat}
    (h : (s.head k).state ≠ .torquing ∨ ∀ limit, (s.spindle k).command ≠ .run limit) :
    takeOkReply k torque angle s = s.setSpindle k { s.spindle k with misses := 0, lastTorque := torque } := by
  unfold takeOkReply
  dsimp only
  split
  next hstate _ =>
    refine if_neg fun hrun => ?_
    have hcommand := h.resolve_left fun hne => hne hstate
    cases hc : (s.spindle k).command with
    | run limit => exact hcommand limit hc
    | idle | hold | release => simp [hc, HeadCommand.isRun] at hrun
  next => rfl

/-- An OK reply that is judged: the spindle takes it whole first (R73, R74). -/
theorem takeOkReply_of_judged {torque angle limit : Nat} {j : Jar} (hrun : (s.spindle k).command = .run limit)
    (hstate : (s.head k).state = .torquing) (hj : (s.head k).jar = some j) : takeOkReply k torque angle s =
      judgeReply k j torque angle
        (s.setSpindle k { s.spindle k with misses := 0, lastTorque := torque, lastAngle := angle }) := by
  simp only [takeOkReply, hstate, hj, hrun, HeadCommand.isRun, if_true, spindle_setSpindle_same, setSpindle_setSpindle]

theorem max_eq_ite_lt (m n : Nat) : max m n = if m < n then n else m := by
  split <;> omega

/-- The rows of R74 and R75 on a head whose spindle was just written. -/
theorem judgeReply_setSpindle {torque angle : Nat} {j : Jar} {v : Spindle} :
    judgeReply k j torque angle (s.setSpindle k v) =
      let j1 := { j with maxTorque := if j.maxTorque < torque then torque else j.maxTorque }
      let settled (c : Closure) (seat : Nat) : Head := { s.head k with
        state := .settled
        jar := some { j1 with closure := c, finalAngle := angle, seatTorque := seat } }
      if s.rcs.jarField j .torqueCeiling < torque then
        (s.setSpindle k v).setHead k (settled .overTorque j.seatTorque)
      else if s.rcs.jarField j .angleLimit < angle then
        (s.setSpindle k v).setHead k (settled .crossThread j.seatTorque)
      else if s.rcs.jarField j .torqueTarget ≤ torque then
        if v.run + 1 = s.rcs.jarField j .seatCount then
          (s.setSpindle k { v with run := v.run + 1, sum := v.sum + torque }).setHead k
            (settled .seated ((v.sum + torque) / s.rcs.jarField j .seatCount))
        else
          (s.setSpindle k { v with run := v.run + 1, sum := v.sum + torque }).setHead k { s.head k with jar := some j1 }
      else (s.setSpindle k { v with run := 0, sum := 0 }).setHead k { s.head k with jar := some j1 } := by
  simp only [judgeReply, spindle_setSpindle_same, setSpindle_setSpindle, State.setSpindle_rcs, head_setSpindle,
    ← max_eq_ite_lt, settleBySpindle, settleHead]

end

/-- Settles O17: the reply is taken into the spindle and judged by the rows of R74. -/
theorem okReplyJudged : Obligations.OkReplyJudged := by
  intro k r limit j s hslot hvalid hok hrun hstate hj
  refine ⟨_, exec_headBusSlotArrival hslot (some r), ?_⟩
  rw [slotOutcome_of_ok hvalid hok]
  have htaken := takeOkReply_of_judged (s := arrived s) (torque := r.torque.toNat) (angle := r.angle.toNat) hrun hstate hj
  rw [takeSlot, htaken, judgeReply_setSpindle]
  have hrcs : (arrived s).rcs = s.rcs := rfl
  have hhead : (arrived s).head k = s.head k := rfl
  have hspindle : (arrived s).spindle k = s.spindle k := rfl
  simp only [hrcs, hhead, hspindle]
  (repeat' split) <;> rfl

/-- Settles O18: the slot ends, and the reply leaves its torque and clears the misses. -/
theorem okReplyNotJudged : Obligations.OkReplyNotJudged := by
  intro k r s hslot hvalid hok hunjudged
  rw [exec_headBusSlotArrival hslot, slotOutcome_of_ok hvalid hok]
  exact congrArg Host.Outcome.next (takeOkReply_of_unjudged (s := arrived s) hunjudged)

/-- Settles O21: an invalid reply brings what no reply brings, and a command that the cycle does not give next is refused by
the test of its slot. -/
theorem unusableReplyIsMissed : Obligations.UnusableReplyIsMissed := by
  refine ⟨fun k r s hinvalid => ?_, fun k r s hslot => ?_, fun k s hposition hnext => ?_, fun s hposition hover => ?_⟩
  · have hmissed : slotOutcome k (some r) = slotOutcome k none := slotOutcome_of_invalid hinvalid
    change execHeadBusSlotArrival k (some r) s = execHeadBusSlotArrival k none s
    rw [execHeadBusSlotArrival, hmissed]
    rfl
  · exact congrArg Host.Outcome.next (if_neg fun hin => hslot ((inSlot_iff _ _).1 hin))
  · refine congrArg Host.Outcome.next (if_neg fun hdue => hnext ?_)
    obtain ⟨hslot, hended⟩ := (due_iff _ _).1 hdue
    have hk := k.isLt
    refine ⟨by omega, fun hne => hended.resolve_left fun hzero => hne (Fin.ext ?_)⟩
    change k.val = 0
    omega
  · refine congrArg Host.Outcome.next (if_neg fun hdue => hover ?_)
    obtain ⟨hslot, hended⟩ := (due_iff _ _).1 hdue
    exact ⟨by omega, hended.resolve_left (by omega)⟩

/-! ### The flush tick (R58, R59) -/

section
variable {s t : State} {k l : Fin 12}

theorem sameHead_flushHead (hne : k ≠ l) (s : State) : SameHead s (flushHead k s) l := by
  unfold flushHead
  dsimp only
  constructor <;> (repeat' split) <;> simp [hne]

/-- The tick reaches each head once, on the head as it stands and the banks as they are. -/
theorem flushTick_head (hok : s.pins.steamOk = true) (k : Fin 12) :
    ∃ t, SameHead s t k ∧ t.rcs = s.rcs ∧ SameHead (flushHead k t) (flushTick s) k := by
  have honce := foldl_allHeads_once (Same := fun t u => SameHead t u k ∧ u.rcs = t.rcs) flushHead k
    (fun t => ⟨SameHead.refl t k, rfl⟩) (fun _ _ _ h h' => ⟨h.1.trans h'.1, h'.2.trans h.2⟩)
    (fun i t hne => ⟨sameHead_flushHead hne t, by simp⟩) s
  obtain ⟨t, ⟨hbefore, hrcs⟩, hafter, -⟩ := honce
  rw [flushTick, if_pos hok]
  exact ⟨t, hbefore, hrcs, hafter⟩

theorem flushHead_of_closed (h : s.valve k = false) : flushHead k s = s := by
  unfold flushHead
  split
  · exact if_neg (by simp [h])
  · rfl

/-- The head and the valve that a tick leaves of an OPEN valve (R58). -/
theorem flushHead_of_open {j : Jar} (hopen : s.valve k = true) (hstate : (s.head k).state = .flushing)
    (hj : (s.head k).jar = some j) :
    let ft := s.rcs.jarField j .flushTime
    (flushHead k s).head k = (if ft ≠ 0 ∧ accrue ft j.flushAccrued = ft then
      { s.head k with
        state := .flushed
        jar := some { j with flushAccrued := accrue ft j.flushAccrued, flushResult := .full } }
      else { s.head k with jar := some { j with flushAccrued := accrue ft j.flushAccrued } }) ∧
    (flushHead k s).valve k = !decide (ft ≠ 0 ∧ accrue ft j.flushAccrued = ft) := by
  dsimp only
  simp only [flushHead, hj, hopen, hstate, and_self, if_true]
  split
  next htarget => exact ⟨by simp, by simp [htarget]⟩
  next hbelow => exact ⟨by simp, by simp [hbelow, hopen]⟩

end

/-- With steam LOW the tick raises STEAM_LOW with the lowest OPEN head, and nothing else (R59). -/
theorem flushTick_of_low {s : State} (hlow : s.pins.steamOk = false) :
    (flushTick s).heads = s.heads ∧ (flushTick s).valves = s.valves ∧
    (∀ k, s.valve k = true → (∀ i, i < k → s.valve i = false) →
      (flushTick s).flt = s.flt.raise ⟨.steamLow, s.ptk.p, headByte k⟩) ∧
    ((∀ k, s.valve k = false) → (flushTick s).flt = s.flt) := by
  have hlowest (k : Fin 12) (hopen : s.valve k = true) (hfirst : ∀ i, i < k → s.valve i = false) :
      lowestOpen s = some k := by
    have hfound : lowestOpen s = (List.finRange 12).find? (fun i => s.valve i) := rfl
    rw [hfound, List.find?_eq_some_iff_getElem]
    exact ⟨hopen, k.val, by simp, by simp, fun i hi => by
      simp [hfirst ⟨i, by omega⟩ (Fin.lt_def.2 hi)]⟩
  rw [flushTick, if_neg (by simp [hlow])]
  refine ⟨?_, ?_, fun k hopen hfirst => ?_, fun hclosed => ?_⟩
  · split <;> simp
  · split <;> simp
  · rw [hlowest k hopen hfirst]
    simp
  · have hnone : lowestOpen s = none := List.find?_eq_none.2 fun k _ => by simp [hclosed k]
    rw [hnone]

/-- The count of a zone-limited flush holds at 400 (R58). -/
theorem accrue_zero (n : Nat) : accrue 0 n = if n < 400 then n + 1 else 400 := by
  rw [accrue, if_pos rfl]
  split <;> omega

theorem accrue_of_ne_zero {ft : Nat} (h : ft ≠ 0) (n : Nat) : accrue ft n = n + 1 := if_neg h

/-- Settles O15: with steam LOW the lowest OPEN head is found; with steam OK the fold reaches each head once, and the OPEN
valves stand on FLUSHING heads. -/
theorem flushTickAccrues : Obligations.FlushTickAccrues := by
  intro ok s hopens _
  refine ⟨_, rfl, fun hlow => ?low, fun hok => ?ok⟩
  case low => exact flushTick_of_low (s := (s.setPins { s.pins with steamOk := ok }).setPtk (countMillisecond s.ptk)) hlow
  case ok =>
    set u := (s.setPins { s.pins with steamOk := ok }).setPtk (countMillisecond s.ptk) with hu
    have hsteam : u.pins.steamOk = true := hok
    refine ⟨?_, fun k => ?_⟩
    · rw [flushTick, if_pos hsteam]
      exact foldl_keeps State.flt (fun t k => flushHead k t) (fun t k => by simp) allHeads u
    obtain ⟨w, hbefore, hrcs, hafter⟩ := flushTick_head hsteam k
    have hhead : w.head k = s.head k := hbefore.head
    have hvalve : w.valve k = s.valve k := hbefore.valve
    have hfield (j : Jar) : w.rcs.jarField j .flushTime = s.rcs.jarField j .flushTime := by rw [hrcs]; rfl
    rw [hafter.head, hafter.valve]
    refine ⟨fun hclosed => ?_, fun j hopen hj => ?_⟩
    · rw [flushHead_of_closed (hvalve.trans hclosed)]
      exact ⟨hhead, hvalve.trans hclosed⟩
    · have hticked := flushHead_of_open (s := w) (k := k) (j := j) (hvalve.trans hopen)
        (by rw [hhead]; exact (hopens k hopen).1) (by rw [hhead, hj])
      simp only [hfield, hhead] at hticked
      rw [hticked.1, hticked.2]
      refine ⟨fun hzero => ?_, fun hne htarget => ?_, fun hne hbelow => ?_⟩
      · simp [hzero, accrue_zero]
      · simp [hne, accrue_of_ne_zero hne, htarget]
      · simp [hne, accrue_of_ne_zero hne, hbelow]

/-! ### The standstill and the millisecond (R5, R6) -/

/-- The tick counts the two timers (R5, R6). -/
theorem countMillisecond_eq {p : Ptk} (htimer : p.pitchTimer ≤ 65535) (hstandstill : p.standstill ≤ 50) :
    countMillisecond p = { p with
      pitchTimer := if p.pitchTimer = 65535 then 65535 else p.pitchTimer + 1
      standstill := if p.motion = .moving ∧ p.standstill < 50 then p.standstill + 1 else p.standstill } := by
  have hcount : min (p.pitchTimer + 1) 65535 = if p.pitchTimer = 65535 then 65535 else p.pitchTimer + 1 := by
    split <;> omega
  have hstill : (if p.motion = .moving then min (p.standstill + 1) Config.standstillTime else p.standstill) =
      if p.motion = .moving ∧ p.standstill < 50 then p.standstill + 1 else p.standstill := by
    by_cases hmoving : p.motion = .moving
    · simp only [hmoving, true_and, if_true, Config.standstillTime]
      split <;> omega
    · simp [hmoving]
  rw [countMillisecond, hcount, hstill]

/-- Settles O14: the expiry stops the turret or is none, and the tick counts the timers before it reaches the valves. -/
theorem standstillAndTimers : Obligations.StandstillAndTimers := by
  constructor
  · intro s
    refine ⟨_, rfl, fun hmoving htimer => ?_, fun hneither => if_neg ?_⟩
    · rw [if_pos ⟨hmoving, Nat.succ_le_succ htimer⟩]
      exact ⟨rfl, fun k => Vector.getElem_replicate k.isLt⟩
    · rintro ⟨hmoving, htimer⟩
      rw [Config.standstillTime] at htimer
      obtain hstopped | hbelow := hneither
      · rw [hmoving] at hstopped
        cases hstopped
      · omega
  · intro ok s htimer hstandstill
    refine ⟨_, rfl, ?_, ?_⟩
    · simpa using countMillisecond_eq htimer hstandstill
    · apply state_eq <;> simp

/-! ### The warm reset (R158) -/

theorem warmRcs_eq (r : Rcs) :
    (warmRcs r).live = r.live ∧ ((warmRcs r).bank r.live).words = (r.bank r.live).words ∧
    ((warmRcs r).bank r.live.other).words = (if r.retiring then (r.bank r.live).words else (r.bank r.live.other).words) ∧
    (warmRcs r).signature = bankSignature ((warmRcs r).bank r.live.other).words ∧
    (warmRcs r).readCursor = r.readCursor ∧ (warmRcs r).writeCursor = r.writeCursor := by
  obtain ⟨x, y, live, retiring, signature, readCursor, writeCursor⟩ := r
  cases live <;> cases retiring <;> exact ⟨rfl, rfl, rfl, rfl, rfl, rfl⟩

theorem warmReset_perHead (s : State) (k : Fin 12) :
    (warmReset s).head k = { s.head k with state := .empty, jar := none } ∧ (warmReset s).valve k = false ∧
    (warmReset s).accumulator k = 0 ∧ (warmReset s).spindle k = ⟨.idle, .free, 0, 0, 0, 0, 0⟩ := by
  have hhead := warmReset_head s k
  refine ⟨hhead, Vector.getElem_replicate k.isLt, ?_, Vector.getElem_replicate k.isLt⟩
  rw [State.accumulator, hhead]
  rfl

/-- The response of RESET_STATION is the first frame of the emptied Link Interface (R149, R158). -/
theorem requestReset_lif (tag : Byte) (s : State) : (requestReset tag s).lif =
    let response := sealFrame ⟨63, s.address, 4, [11, tag, 0]⟩
    if s.pins.downstreamHold then ⟨.hunt, [], [response.frame], none, false, []⟩
    else ⟨.hunt, [], [], some response, false, []⟩ := by
  obtain ⟨-, haddress, hpins, -⟩ := warmReset_frame s
  have hlif : (warmReset s).lif = Lif.reset := rfl
  have hframe : (⟨lineMaster, (warmReset s).address, kindRsp, [11, tag, Status.ok.code]⟩ : Frame) =
      ⟨63, s.address, 4, [11, tag, 0]⟩ := by
    rw [haddress]
    rfl
  rw [requestReset, respond, hframe]
  dsimp only
  split
  next hhold =>
    rw [pushFrame_of_waiting (by rw [hlif]; decide) (by rw [hpins, hhold]; simp), State.setLif_lif, hlif]
    rfl
  next hfree =>
    rw [pushFrame_of_idle (show (4 : Byte) ≠ 1 by decide) (by rw [hlif]; rfl) (by rw [hpins]; simpa using hfree) (by rw [hlif]; rfl)
      (by rw [hlif]; rfl), State.setLif_lif, hlif]
    rfl

theorem warmReset_blocks (s : State) : (warmReset s).ifq = [] ∧ (warmReset s).spu.position = 0 ∧
    (warmReset s).ofl = [] ∧ (warmReset s).scu = { s.scu with window := .closed } ∧
    (warmReset s).dsu = { s.dsu with rejectRun := 0 } ∧ (warmReset s).flt = ⟨[], []⟩ := by
  simp [warmReset]

/-- What the warm reset leaves of the Pitch Tracker (R8, R13); the head angles stand by the high-water count. -/
theorem warmReset_tracker (s : State) :
    (warmReset s).ptk.turret = s.ptk.turret ∧ (warmReset s).ptk.backlog = s.ptk.backlog ∧
    (warmReset s).highWater = s.highWater ∧ (∀ k, (warmReset s).angle k = s.angle k) ∧
    (warmReset s).ptk.motion = .stopped ∧ (warmReset s).ptk.speed = 0 ∧ (warmReset s).ptk.pitchTimer = 0 ∧
    (warmReset s).ptk.originPresent = false ∧ (warmReset s).ptk.p = 0 ∧ (warmReset s).ptk.sync = .unsynced ∧
    (warmReset s).ptk.leadTable = s.ptk.leadTable ∧ (warmReset s).ptk.lead = leadOf s.ptk.leadTable 0 := by
  have hhighWater : (warmReset s).highWater = s.highWater := by simp [State.highWater, warmReset_ptk, warmPtk]
  have hangle := angle_eq_of_highWater_eq hhighWater
  rw [warmReset_ptk]
  exact ⟨rfl, rfl, hhighWater, hangle, rfl, rfl, rfl, rfl, rfl, rfl, rfl, rfl⟩

/-- What it leaves of the Recipe Store (R105). -/
theorem warmReset_store (s : State) :
    (warmReset s).rcs.live = s.rcs.live ∧ (warmReset s).rcs.retiring = false ∧
    ((warmReset s).rcs.bank s.rcs.live).words = (s.rcs.bank s.rcs.live).words ∧
    ((warmReset s).rcs.bank s.rcs.live.other).words =
      (if s.rcs.retiring then (s.rcs.bank s.rcs.live).words else (s.rcs.bank s.rcs.live.other).words) ∧
    (∀ i, ((warmReset s).rcs.bank i).inFlight = 0) ∧
    (warmReset s).rcs.signature = bankSignature ((warmReset s).rcs.bank s.rcs.live.other).words ∧
    (warmReset s).rcs.readCursor = s.rcs.readCursor ∧ (warmReset s).rcs.writeCursor = s.rcs.writeCursor := by
  obtain ⟨hlive, hwords, hcopy, hsignature, hread, hwrite⟩ := warmRcs_eq s.rcs
  rw [warmReset_rcs]
  exact ⟨hlive, warmRcs_retiring _, hwords, hcopy, warmRcs_inFlight _, hsignature, hread, hwrite⟩

/-- Settles O3: the warm reset block by block, and the response into the emptied queue. -/
theorem warmResetLeaves : Obligations.WarmResetLeaves := by
  intro tag s
  have hrespond : requestReset tag s = (warmReset s).setLif (requestReset tag s).lif := respond_eq_setLif _ _ _ _ _
  have hlif := requestReset_lif tag s
  generalize (requestReset tag s).lif = l at hlif hrespond
  refine ⟨(warmReset s).setLif l, congrArg Host.Outcome.next hrespond, ?_⟩
  obtain ⟨hcfg, haddress, hpins, hpending⟩ := warmReset_frame s
  obtain ⟨hturret, hbacklog, hhighWater, hangle, hmotion, hspeed, htimer, horigin, hp, hsync, htable, hlead⟩ :=
    warmReset_tracker s
  obtain ⟨hlive, hretiring, hwords, hcopy, hcounts, hsignature, hread, hwrite⟩ := warmReset_store s
  obtain ⟨hifq, hposition, hofl, hscu, hdsu, hflt⟩ := warmReset_blocks s
  have hheads := warmReset_perHead s
  generalize warmReset s = w at *
  exact ⟨hturret, hbacklog, hhighWater, hangle, hmotion, hspeed, htimer, horigin, hp, hsync, htable, hlead, hcfg, hifq,
    hheads, hposition, hlive, hretiring, hwords, hcopy, hcounts, hsignature, hread, hwrite, hofl, hscu, hdsu, hlif, hflt,
    haddress, hpins, hpending⟩

end Sys2Proof.Machine
end

section
/-! The requests of the Management Responder that answer, store, read or set (R149 to R157). -/

namespace Sys2Proof.Machine

open Sys2Proof.Claims

/-! ### FAULTS, SEED_AUDIT, CLEAR_TALLIES and payloads that open no request -/

/-- Settles O32: the response's data are `faultsData`, and the overflow codes stand in the order that the set is held in. -/
theorem faultsAnswers : Obligations.FaultsAnswers := by
  intro tag s hserved hsorted
  obtain ⟨hstate, hanswer⟩ : requestFaults tag s = s.setLif (requestFaults tag s).lif ∧
      Answered s 2 tag 0 (faultsData s.flt) (requestFaults tag s).lif :=
    respond_answers hserved 2 tag .ok (faultsData s.flt)
  refine ⟨requestFaults tag s, s.flt.overflow.map (fun e => e.code.code), rfl, hstate, List.pairwise_map.2 hsorted,
    fun n => List.mem_map, ?_⟩
  have hdata : faultsData s.flt = [BitVec.ofNat 8 s.flt.list.length] ++
      s.flt.list.flatMap (fun e => [BitVec.ofNat 8 e.code.code, highByte e.pitch, lowByte e.pitch, e.detail]) ++
      [BitVec.ofNat 8 s.flt.overflow.length] ++
      (s.flt.overflow.map (fun e => e.code.code)).map (fun n => BitVec.ofNat 8 n) := by
    rw [faultsData, List.map_map, List.append_assoc]
    rfl
  rwa [hdata] at hanswer

theorem auditSeed_toNat (v : Word) :
    (auditSeed v).toNat = if v.toNat % 1024 = 0 then 1 else v.toNat % 1024 := by
  unfold auditSeed
  split
  · rfl
  · exact BitVec.toNat_ofNat v.toNat 10

/-- Settles O41: one block each, and the response. -/
theorem seedAndClear : Obligations.SeedAndClear := by
  intro tag s hserved
  constructor
  · intro v
    obtain ⟨hstate, hanswer⟩ := respond_answers (s := s.setDsu { s.dsu with audit := auditSeed v }) hserved 9 tag .ok
      (wordBytes ((auditSeed v).setWidth 16))
    have hdsu : (requestSeedAudit tag v s).dsu = { s.dsu with audit := auditSeed v } := by
      rw [requestSeedAudit, hstate]
      rfl
    refine ⟨requestSeedAudit tag v s, rfl, ?_, ?_, ?_⟩ <;> rw [hdsu]
    · exact hstate
    · exact auditSeed_toNat v
    · rw [BitVec.ofNat_toNat]
      exact hanswer
  · obtain ⟨hstate, hanswer⟩ := respond_answers (s := s.setDsu { s.dsu with tallies := Vector.replicate 15 0 }) hserved 10 tag
      .ok []
    have hdsu : (requestClearTallies tag s).dsu = { s.dsu with tallies := Vector.replicate 15 0 } := by
      rw [requestClearTallies, hstate]
      rfl
    refine ⟨requestClearTallies tag s, rfl, ?_, fun i => ?_, hanswer⟩ <;> rw [hdsu]
    · exact hstate
    · exact Vector.getElem_replicate i.isLt

theorem parseRequest_of_unknown {code tag : Byte} {rest : List Byte} (h : code.toNat = 0 ∨ 11 < code.toNat) :
    parseRequest (code :: tag :: rest) = .refused code tag .unknownRequest := if_pos h

/-- Settles O42: such a payload is refused by the first two tests of R149. -/
theorem unknownRequestAnswered : Obligations.UnknownRequestAnswered := by
  intro payload s hserved hunknown
  have hrefused (code tag : Byte) (st : Status) (hparsed : parseRequest payload = .refused code tag st) :
      takeRequest payload s = s.setLif (takeRequest payload s).lif ∧
      Answered s code tag st.code [] (takeRequest payload s).lif := by
    rw [takeRequest, hparsed]
    exact respond_answers hserved code tag st []
  refine ⟨takeRequest payload s, rfl, ?_⟩
  match payload with
  | [] =>
    obtain ⟨hstate, hanswer⟩ := hrefused 0 0 .lengthError rfl
    exact ⟨hstate, fun _ => hanswer, (fun _ h => nomatch h), (fun _ _ _ h => nomatch h)⟩
  | [code] =>
    obtain ⟨hstate, hanswer⟩ := hrefused code 0 .lengthError rfl
    refine ⟨hstate, (fun h => nomatch h), fun code' h => ?_, (fun _ _ _ h => nomatch h)⟩
    obtain rfl : code = code' := by simpa using h
    exact hanswer
  | code :: tag :: rest =>
    obtain ⟨hstate, hanswer⟩ := hrefused code tag .unknownRequest (parseRequest_of_unknown (hunknown code tag rest rfl))
    refine ⟨hstate, (fun h => nomatch h), (fun _ h => nomatch h), fun code' tag' rest' h => ?_⟩
    obtain ⟨rfl, rfl, -⟩ : code = code' ∧ tag = tag' ∧ rest = rest' := by simpa using h
    exact hanswer

/-! ### HEAD_SERVICE (R49, R157) -/

theorem pendingAfter_eq (x asked : Service) : pendingAfter x asked = if x = asked then none else some asked :=
  if_congr eq_comm rfl rfl

theorem byteOfNat_serviceCode (x : Service) : byteOfNat x.code = if x = .inService then 0 else 1 := by cases x <;> rfl

/-- The pending change in a response, where the value asked for is pending or none is. -/
theorem byteOfNat_pendingCode (x : Service) (v : Bool) :
    byteOfNat (pendingCode (if x = (if v then Service.outOfService else .inService) then none
      else some (if v then Service.outOfService else .inService))) =
    if (if x = (if v then Service.outOfService else .inService) then none
      else some (if v then Service.outOfService else .inService)) = none then 0 else if v then 2 else 1 := by
  cases v <;> cases x <;> rfl

section
variable {s : State} {tag head value : Byte}

theorem requestHeadService_refused (h : 11 < head.toNat ∨ 1 < value.toNat) :
    requestHeadService tag head value s = refuse 8 tag .badArg s := if_pos h

/-- A head of the station and IN or OUT: the pending change, and the response with what it leaves. -/
theorem requestHeadService_eq (k : Fin 12) (v : Bool) :
    requestHeadService tag (BitVec.ofNat 8 k.val) (if v then 1 else 0) s =
      let asked : Service := if v then .outOfService else .inService
      let h : Head := { s.head k with pendingService := if (s.head k).service = asked then none else some asked }
      respond 8 tag .ok [if h.service = .inService then 0 else 1,
        if h.pendingService = none then 0 else if v then 2 else 1] (s.setHead k h) := by
  have hhead : (BitVec.ofNat 8 k.val).toNat = k.val := by
    rw [BitVec.toNat_ofNat]
    omega
  have hvalue : (if v then 1 else 0 : Byte).toNat = if v then 1 else 0 := by cases v <;> rfl
  have hk : Fin.ofNat 12 k.val = k := Fin.ofNat_val_eq_self k
  have hasked : (if (if v then 1 else 0) = 0 then Service.inService else .outOfService) =
      if v then .outOfService else .inService := by cases v <;> rfl
  have hfits : ¬(11 < k.val ∨ 1 < if v then 1 else 0) := by
    have := k.isLt
    split <;> omega
  rw [requestHeadService, hhead, hvalue, if_neg hfits, hk, hasked]
  dsimp only
  rw [pendingAfter_eq, byteOfNat_serviceCode, byteOfNat_pendingCode]

end

/-- Settles O40: the pending change of one head, and the response. -/
theorem headServicePends : Obligations.HeadServicePends := by
  intro tag s hserved
  refine ⟨fun k v => ⟨_, rfl, ?_⟩, fun head value h => ⟨_, rfl, ?_⟩⟩
  · rw [requestHeadService_eq k v]
    exact respond_answers (s := s.setHead k _) hserved 8 tag .ok _
  · rw [requestHeadService_refused h]
    exact respond_answers hserved 8 tag .badArg []

/-! ### Transfers that are refused (R95, R96, R149, R153) -/

section
variable {s : State} {tag count : Byte} {words : List Word}

theorem requestWrite_of_wrongLength (h : words.length ≠ count.toNat) :
    requestWrite tag count words s = refuse 5 tag .lengthError s := if_pos h

theorem requestWrite_of_wrongCount (hlength : words.length = count.toNat) (h : count.toNat = 0 ∨ 20 < count.toNat) :
    requestWrite tag count words s = refuse 5 tag .badArg s := by
  rw [requestWrite, if_neg (not_not.2 hlength), if_pos h]

theorem requestWrite_of_refusal {st : Status} (hlength : words.length = count.toNat) (hlow : 1 ≤ count.toNat)
    (hhigh : count.toNat ≤ 20) (h : writeRefusal s.rcs s.rcs.writeCursor.table = some st) :
    requestWrite tag count words s = refuse 5 tag st s := by
  rw [requestWrite, if_neg (not_not.2 hlength), if_neg (by omega), h]

/-- A WRITE that is taken (R95, R155). -/
theorem requestWrite_of_taken {tbl : Table} {i : Nat} (hlength : words.length = count.toNat) (hlow : 1 ≤ count.toNat)
    (hhigh : count.toNat ≤ 20) (hcursor : s.rcs.writeCursor = ⟨tbl, i⟩) (h : writeRefusal s.rcs tbl = none) :
    requestWrite tag count words s =
      respond 5 tag .ok [byteOfNat (min count.toNat (tbl.length - i))]
        ((storeTable tbl i words s).setRcs { (storeTable tbl i words s).rcs with
          writeCursor := ⟨tbl, i + min count.toNat (tbl.length - i)⟩ }) := by
  rw [requestWrite, if_neg (not_not.2 hlength), if_neg (by omega), hcursor]
  simp only [h, transferCount, hlength]

theorem requestRead_of_wrongCount (h : count.toNat = 0 ∨ 20 < count.toNat) :
    requestRead tag count s = refuse 6 tag .badArg s := if_pos h

theorem requestRead_of_refusal {st : Status} (hlow : 1 ≤ count.toNat) (hhigh : count.toNat ≤ 20)
    (h : readRefusal s.rcs s.rcs.readCursor.table = some st) : requestRead tag count s = refuse 6 tag st s := by
  rw [requestRead, if_neg (by omega), h]

/-- A READ that is taken (R96, R155). -/
theorem requestRead_of_taken {tbl : Table} {i : Nat} (hlow : 1 ≤ count.toNat) (hhigh : count.toNat ≤ 20)
    (hcursor : s.rcs.readCursor = ⟨tbl, i⟩) (h : readRefusal s.rcs tbl = none) :
    requestRead tag count s = respond 6 tag .ok
      (byteOfNat (min count.toNat (tbl.length - i)) ::
        (tableWords s tbl i (min count.toNat (tbl.length - i))).flatMap wordBytes)
      (s.setRcs { s.rcs with readCursor := ⟨tbl, i + min count.toNat (tbl.length - i)⟩ }) := by
  rw [requestRead, if_neg (by omega), hcursor]
  simp only [h, transferCount]

/-- The tables that take no WRITE (R153). -/
theorem writeRefusal_of_readOnly (r : Rcs) {t : Table} (h : t ∈ [Table.live, .retiring, .tallies, .sampleRing, .heads]) :
    writeRefusal r t = some .badTable := by
  simp only [List.mem_cons, List.not_mem_nil, or_false] at h
  obtain rfl | rfl | rfl | rfl | rfl := h <;> rfl

end

/-- Settles O38: each test refuses in its turn, and a refusal is a response alone. -/
theorem transfersRefused : Obligations.TransfersRefused := by
  intro tag count words s hserved
  refine ⟨⟨requestWrite tag count words s, rfl, fun hlength => ?_, fun hlength hcount => ?_, fun hlength hlow hhigh =>
    ⟨fun hreadOnly => ?_, fun hspare hretiring => ?_⟩⟩, requestRead tag count s, rfl, fun hcount => ?_,
    fun hlow hhigh => ⟨fun hspare hretiring => ?_, fun hretired hretiring => ?_⟩⟩
  · rw [requestWrite_of_wrongLength hlength]
    exact respond_answers hserved 5 tag .lengthError []
  · rw [requestWrite_of_wrongCount hlength hcount]
    exact respond_answers hserved 5 tag .badArg []
  · rw [requestWrite_of_refusal hlength hlow hhigh (writeRefusal_of_readOnly s.rcs hreadOnly)]
    exact respond_answers hserved 5 tag .badTable []
  · rw [requestWrite_of_refusal hlength hlow hhigh (st := .busy) (by simp [hspare, writeRefusal, hretiring])]
    exact respond_answers hserved 5 tag .busy []
  · rw [requestRead_of_wrongCount hcount]
    exact respond_answers hserved 6 tag .badArg []
  · rw [requestRead_of_refusal hlow hhigh (st := .busy) (by simp [hspare, readRefusal, hretiring])]
    exact respond_answers hserved 6 tag .busy []
  · rw [requestRead_of_refusal hlow hhigh (st := .badTable) (by simp [hretired, readRefusal, hretiring])]
    exact respond_answers hserved 6 tag .badTable []

/-! ### Values brought into their ranges (R7, R88, R156) -/

theorem clampWord_eq_into {range : Nat × Nat} (h : range.1 ≤ range.2) (w : Word) :
    clampWord range.1 range.2 w = into range w := by
  unfold clampWord clampNat into
  split
  next hlow => rw [max_eq_left (by omega)]; rfl
  split
  next hlow hhigh => rw [min_eq_left (by omega), max_eq_right h]; rfl
  next hlow hhigh =>
    rw [min_eq_right (by omega), max_eq_right (by omega), wordOfNat, BitVec.ofNat_toNat, BitVec.setWidth_eq]

theorem recipeRange_eq (n : Fin 20) : recipeRange n.val = recipeRanges.getD n.val (0, 0) ∧
    (recipeRange n.val).1 ≤ (recipeRange n.val).2 := by
  revert n
  decide

theorem clampRecipeWord_eq (i : Nat) (w : Word) : clampRecipeWord i w = storedInBank i w := by
  obtain ⟨hrange, hordered⟩ := recipeRange_eq ⟨i % 20, Nat.mod_lt _ (by decide)⟩
  unfold clampRecipeWord storedInBank
  rw [clampWord_eq_into hordered, hrange]

theorem clampLeadWord_eq (i : Nat) (w : Word) : clampLeadWord i w = storedInLead i w := by
  unfold clampLeadWord storedInLead
  rw [clampWord_eq_into (range := (0, 1200)) (by decide), clampWord_eq_into (range := (0, 60)) (by decide)]

theorem clampConfigWord_eq (i : Fin 7) (w : Word) : clampConfigWord i.val w = storedInConfig i.val w := by
  have hordered : ∀ k : Fin 7, (configRanges.getD k.val (0, 0)).1 ≤ (configRanges.getD k.val (0, 0)).2 := by decide
  rw [storedInConfig, ← clampWord_eq_into (hordered i)]
  fin_cases i <;> rfl

/-- What a store leaves of a table, by the value that each stored word takes (R95, R155). -/
theorem stored_storeWords {n : Nat} {clamp value : Nat → Word → Word} (h : ∀ (i : Fin n) w, clamp i.val w = value i.val w)
    (words : List Word) (from_ : Nat) (old : Vector Word n) : Stored value words from_ old (storeWords clamp words from_ old) := by
  intro i
  have hget := storeWords_get clamp words from_ old i.val
  rw [Vector.getElem?_eq_getElem i.isLt, Vector.getElem?_eq_getElem i.isLt] at hget
  by_cases hstored : from_ ≤ i.val ∧ i.val < from_ + words.length
  · have hindex : i.val - from_ < words.length := by omega
    rw [if_pos ⟨i.isLt, hstored⟩, List.getElem?_eq_getElem hindex, Option.map_some, Option.some_inj, h] at hget
    rw [if_pos hstored, hget, List.getD_eq_getElem?_getD, List.getElem?_eq_getElem hindex, Option.getD_some]
  · rw [if_neg fun hall => hstored hall.2, Option.some_inj] at hget
    rw [if_neg hstored, hget]

/-! ### WRITE (R7, R88, R94, R95, R155, R156) -/

/-- The Recipe Store after a WRITE into the SPARE bank. -/
def spareWritten (r : Rcs) (words : List Word) (i : Nat) (c : Cursor) : Rcs :=
  { r.withSpare (storeWords clampRecipeWord words i (r.bank r.live.other).words) with writeCursor := c }

theorem spareWritten_eq (r : Rcs) (words : List Word) (i : Nat) (c : Cursor) :
    (spareWritten r words i c).live = r.live ∧ (spareWritten r words i c).retiring = r.retiring ∧
    (spareWritten r words i c).bank r.live = r.bank r.live ∧
    ((spareWritten r words i c).bank r.live.other).inFlight = (r.bank r.live.other).inFlight ∧
    ((spareWritten r words i c).bank r.live.other).words =
      storeWords clampRecipeWord words i (r.bank r.live.other).words ∧
    (spareWritten r words i c).signature = bankSignature (storeWords clampRecipeWord words i (r.bank r.live.other).words) ∧
    (spareWritten r words i c).readCursor = r.readCursor := by
  obtain ⟨hlive, hretiring, hsignature, hkept, hstored, hread, -⟩ :=
    withSpare_eq r (storeWords clampRecipeWord words i (r.bank r.live.other).words)
  have hbank (x : BankId) : (spareWritten r words i c).bank x =
      (r.withSpare (storeWords clampRecipeWord words i (r.bank r.live.other).words)).bank x := by cases x <;> rfl
  rw [hbank, hbank, hkept, hstored]
  exact ⟨hlive, hretiring, rfl, rfl, rfl, hsignature, hread⟩

/-- Settles O35: the WRITE is taken, and the store renews the signature of the bank as it leaves it. -/
theorem writeIntoSpare : Obligations.WriteIntoSpare := by
  intro tag count words i s hserved hlength hlow hhigh hcursor _ hspare
  set c : Cursor := ⟨.spare, i + min count.toNat (160 - i)⟩ with hc
  obtain ⟨hstate, hanswer⟩ := respond_answers (s := s.setRcs (spareWritten s.rcs words i c)) hserved 5 tag .ok
    [byteOfNat (min count.toNat (160 - i))]
  have hwrite : requestWrite tag count words s = respond 5 tag .ok [byteOfNat (min count.toNat (160 - i))]
      (s.setRcs (spareWritten s.rcs words i c)) :=
    requestWrite_of_taken hlength hlow hhigh hcursor (by simp [writeRefusal, hspare])
  obtain ⟨hlive, hretiring, hkept, hcount, hwords, hsignature, hread⟩ := spareWritten_eq s.rcs words i c
  have hrcs : (requestWrite tag count words s).rcs = spareWritten s.rcs words i c := by rw [hwrite, hstate]; rfl
  refine ⟨requestWrite tag count words s, rfl, ?_⟩
  rw [hrcs]
  refine ⟨?_, ?_, ?_, rfl, hread, hlive, hretiring.trans hspare, hkept, hcount, ?_⟩
  · rw [hwrite]
    exact hstate
  · rw [hwords]
    exact stored_storeWords (fun i w => clampRecipeWord_eq i.val w) words i _
  · rw [hsignature, hwords]
  · rw [hwrite]
    exact hanswer

/-- Settles O36: the same for the two tables outside the Recipe Store. -/
theorem writeIntoLeadAndConfig : Obligations.WriteIntoLeadAndConfig := by
  intro tag count words i s hserved hlength hlow hhigh
  constructor
  · intro hcursor _
    have hwrite := requestWrite_of_taken (tag := tag) hlength hlow hhigh hcursor rfl
    refine ⟨requestWrite tag count words s, rfl, ?_⟩
    rw [hwrite]
    set u := (s.setPtk { s.ptk with leadTable := storeWords clampLeadWord words i s.ptk.leadTable }).setRcs { s.rcs with
      writeCursor := ⟨.lead, i + min count.toNat (16 - i)⟩ } with hu
    obtain ⟨hstate, hanswer⟩ := respond_answers (s := u) hserved 5 tag .ok [byteOfNat (min count.toNat (16 - i))]
    have hptk : (respond 5 tag .ok [byteOfNat (min count.toNat (16 - i))] u).ptk = u.ptk := by rw [hstate]; rfl
    refine ⟨?_, ?_, hanswer⟩
    · exact hptk ▸ hstate
    · exact hptk ▸ stored_storeWords (fun i w => clampLeadWord_eq i.val w) words i s.ptk.leadTable
  · intro hcursor _
    have hwrite := requestWrite_of_taken (tag := tag) hlength hlow hhigh hcursor rfl
    refine ⟨requestWrite tag count words s, rfl, ?_⟩
    rw [hwrite]
    set u := (s.setCfg (storeWords clampConfigWord words i s.cfg)).setRcs { s.rcs with
      writeCursor := ⟨.config, i + min count.toNat (7 - i)⟩ } with hu
    obtain ⟨hstate, hanswer⟩ := respond_answers (s := u) hserved 5 tag .ok [byteOfNat (min count.toNat (7 - i))]
    have hcfg : (respond 5 tag .ok [byteOfNat (min count.toNat (7 - i))] u).cfg = u.cfg := by rw [hstate]; rfl
    refine ⟨?_, ?_, hanswer⟩
    · exact hcfg ▸ hstate
    · exact hcfg ▸ stored_storeWords clampConfigWord_eq words i s.cfg

/-! ### The words of a table (R52, R111, R132, R153) -/

/-- The numbers below m times k in rows of k. -/
theorem range_mul_eq_flatMap (m k : Nat) :
    List.range (m * k) = (List.range m).flatMap (fun a => (List.range k).map (fun b => a * k + b)) := by
  induction m with
  | zero => simp
  | succ m ih => rw [Nat.succ_mul, List.range_add, ih, List.range_succ, List.flatMap_append, List.flatMap_singleton]

/-- A table laid out in rows of k words. -/
theorem map_range_mul {m k : Nat} (f : Nat → Word) (row : Nat → List Word)
    (h : ∀ a, a < m → row a = (List.range k).map (fun b => f (a * k + b))) :
    (List.range (m * k)).map f = (List.range m).flatMap row := by
  rw [range_mul_eq_flatMap, List.map_flatMap]
  refine List.flatMap_congr fun a ha => ?_
  rw [List.map_map, h a (List.mem_range.1 ha)]
  rfl

theorem toList_eq_map_range {n : Nat} (v : Vector Word n) : v.toList = (List.range n).map (fun i => v[i]?.getD 0) := by
  refine List.ext_getElem (by simp) fun i hi _ => ?_
  have hin : i < n := by simpa using hi
  rw [List.getElem_map, List.getElem_range, Vector.getElem?_eq_getElem hin, Vector.getElem_toList]
  rfl

theorem wordOfNat_tagCode (tag : Option BankId) (usable : Bool) :
    wordOfNat (tagCode tag + if usable then 4 else 0) =
      (match tag with
        | some .a => 0#16
        | some .b => 1#16
        | none => 2#16) + (if usable then 4 else 0) := by
  cases usable <;> match tag with
  | some .a => rfl
  | some .b => rfl
  | none => rfl

theorem serialWords (n : BitVec 32) :
    (n >>> 16).setWidth 16 = n.extractLsb' 16 16 ∧ n.setWidth 16 = n.extractLsb' 0 16 := by
  constructor <;> ext i hi <;> simp

/-- The twenty words of a head, one by one (R52). -/
theorem headWords_eq (s : State) (k : Fin 12) : headWords s k = (List.range 20).map (headWord s k) := by
  have hrange : (List.range 20).map (headWord s k) = [headWord s k 0, headWord s k 1, headWord s k 2, headWord s k 3,
      headWord s k 4, headWord s k 5, headWord s k 6, headWord s k 7, headWord s k 8, headWord s k 9, headWord s k 10,
      headWord s k 11, headWord s k 12, headWord s k 13, headWord s k 14, headWord s k 15, headWord s k 16, headWord s k 17,
      headWord s k 18, headWord s k 19] := rfl
  have hservice (x : Service) : wordOfNat x.code = if x = .inService then 0 else 1 := by cases x <;> rfl
  have hpending (x : Option Service) : wordOfNat (pendingCode x) = (match x with
      | none => 0
      | some .inService => 1
      | some .outOfService => 2) := by
    match x with
    | none => rfl
    | some .inService => rfl
    | some .outOfService => rfl
  rw [hrange]
  unfold headWords headWord
  dsimp only
  rw [hservice, hpending]
  cases (s.head k).jar with
  | none => rfl
  | some j =>
    have htemp : wordOfNat (j.effectiveTemp.getD 0) = (match j.effectiveTemp with
        | some v => BitVec.ofNat 16 v
        | none => 0) := by cases j.effectiveTemp <;> rfl
    simp only [jarWord, wordOfNat_tagCode, (serialWords j.record.serial).1, (serialWords j.record.serial).2, htemp]
    rfl

/-- The words of a table are those that its numbers name (R153). -/
theorem tableContents_eq (s : State) (t : Table) : tableContents s t = (List.range t.length).map (tableWord s t) := by
  cases t with
  | live => exact toList_eq_map_range _
  | spare => exact toList_eq_map_range _
  | retiring => exact toList_eq_map_range _
  | lead => exact toList_eq_map_range _
  | config => exact toList_eq_map_range _
  | tallies =>
    have hrows := map_range_mul (m := 15) (k := 2) (tallyWord s.dsu.tallies)
      (fun a => [wordOfNat ((s.dsu.tallies[a]?.getD 0) / 65536), wordOfNat ((s.dsu.tallies[a]?.getD 0) % 65536)]) fun a _ => by
        have heven : tallyWord s.dsu.tallies (a * 2 + 0) = wordOfNat ((s.dsu.tallies[a]?.getD 0) / 65536) := by
          simp [tallyWord]
        have hodd : tallyWord s.dsu.tallies (a * 2 + 1) = wordOfNat ((s.dsu.tallies[a]?.getD 0) % 65536) := by
          simp [tallyWord, show (a * 2 + 1) / 2 = a by omega]
        rw [← heven, ← hodd]
        rfl
    have hlist : s.dsu.tallies.toList = (List.range 15).map (fun a => s.dsu.tallies[a]?.getD 0) := by
      refine List.ext_getElem (by simp) fun i hi _ => ?_
      have hin : i < 15 := by simpa using hi
      rw [List.getElem_map, List.getElem_range, Vector.getElem?_eq_getElem hin, Vector.getElem_toList]
      rfl
    rw [tableContents, hlist, List.flatMap_map]
    exact hrows.symm
  | sampleRing =>
    have hring : s.scu.ring.toList.map (fun v => BitVec.ofInt 16 v) = (List.range 64).map (ringWord s.scu) := by
      refine List.ext_getElem (by simp) fun i hi _ => ?_
      have hin : i < 64 := by simpa using hi
      simp [ringWord, hin]
    rw [tableContents, hring]
    rfl
  | heads =>
    have hrows := map_range_mul (m := 12) (k := 20) (tableWord s .heads) (fun a => headWords s (Fin.ofNat 12 a)) fun a _ => by
      rw [headWords_eq]
      refine List.map_congr_left fun b hb => ?_
      have hb := List.mem_range.1 hb
      simp only [tableWord, show (a * 20 + b) / 20 = a by omega, show (a * 20 + b) % 20 = b by omega]
    have hheads : allHeads = (List.range 12).map (Fin.ofNat 12) := by decide
    rw [tableContents, hheads, List.flatMap_map]
    exact hrows.symm

theorem tableContents_length (s : State) (t : Table) : (tableContents s t).length = t.length := by
  rw [tableContents_eq, List.length_map, List.length_range]

/-- The words that a READ takes are those from its index on, at most to the table's end. -/
theorem tableWords_eq (s : State) (t : Table) (i n : Nat) :
    tableWords s t i (min n (t.length - i)) = ((tableContents s t).drop i).take n := by
  rw [tableContents_eq, tableWords]
  refine List.ext_getElem (by simp) fun j hj _ => ?_
  simp

/-- Settles O37: the READ is taken, and its words are those of the table from the index on. -/
theorem readTransfers : Obligations.ReadTransfers := by
  intro tag count tbl i s hserved hlow hhigh hcursor _ hspare hretired
  have htaken : readRefusal s.rcs tbl = none := by
    cases tbl with
    | spare => simp [readRefusal, hspare rfl]
    | retiring => simp [readRefusal, hretired rfl]
    | live | lead | config | tallies | sampleRing | heads => rfl
  have hlength : (((tableContents s tbl).drop i).take count.toNat).length = min count.toNat (tbl.length - i) := by
    rw [List.length_take, List.length_drop, tableContents_length]
  refine ⟨requestRead tag count s, rfl, ?_⟩
  dsimp only
  rw [hlength, ← tableWords_eq, requestRead_of_taken hlow hhigh hcursor htaken]
  exact respond_answers (s := s.setRcs { s.rcs with readCursor := ⟨tbl, i + min count.toNat (tbl.length - i)⟩ }) hserved 6
    tag .ok _

end Sys2Proof.Machine
end

section
/-! The upstream port: the characters of a frame, what the receiver makes of them, and the frame ends that it enters in the
discard window (R135 to R139). -/

namespace Sys2Proof.Machine

open Sys2Proof.Claims

/-! ### Words and link characters (R135, R165) -/

theorem highByte_append_lowByte (w : Word) : highByte w ++ lowByte w = w := by
  refine BitVec.eq_of_getLsbD_eq fun i hi => ?_
  rw [BitVec.getLsbD_append, highByte, lowByte]
  by_cases hlow : i < 8
  · simp [hlow]
  · have hsub : i - 8 < 8 := by omega
    simp [hlow, hsub, show 8 + (i - 8) = i by omega]

theorem charData_linkChar : ∀ (x : Byte) (mark : Bool), charData (linkChar x mark) = x := by decide +kernel

theorem charMark_linkChar : ∀ (x : Byte) (mark : Bool), charMark (linkChar x mark) = mark := by decide +kernel

theorem charOdd_linkChar : ∀ (x : Byte) (mark : Bool), charOdd (linkChar x mark) = true := by decide +kernel

/-- The parity bit keeps a character that is sent from being the idle one (R135). -/
theorem charIdle_linkChar : ∀ (x : Byte) (mark : Bool), charIdle (linkChar x mark) = false := by decide +kernel

theorem charParityError_linkChar (x : Byte) (mark : Bool) : charParityError (linkChar x mark) = false := by
  rw [charParityError, charOdd_linkChar, Bool.not_true, Bool.and_false]

theorem foldl_xor (f g : Nat → Bool) (is : List Nat) (p q : Bool) :
    is.foldl (fun r i => r ^^ (f i ^^ g i)) (p ^^ q) = (is.foldl (fun r i => r ^^ f i) p ^^ is.foldl (fun r i => r ^^ g i) q) := by
  induction is generalizing p q with
  | nil => rfl
  | cons i is ih =>
    have hstep : ((p ^^ q) ^^ (f i ^^ g i)) = ((p ^^ f i) ^^ (q ^^ g i)) := by
      rw [Bool.xor_assoc, Bool.xor_assoc, Bool.xor_left_comm q]
    rw [List.foldl_cons, hstep, ih]
    rfl

/-- The parity of two characters added without carry. -/
theorem charOdd_xor (c d : LinkChar) : charOdd (c ^^^ d) = (charOdd c ^^ charOdd d) := by
  unfold charOdd
  simp only [BitVec.getLsbD_xor]
  exact foldl_xor (fun i => c.getLsbD (i + 1)) (fun i => d.getLsbD (i + 1)) (List.range 10) false false

/-- A data or parity bit flipped makes the parity wrong and leaves the mark (R135). -/
theorem flipped_char {n : Nat} (hlow : 1 ≤ n) (hhigh : n ≤ 10) (hmark : n ≠ 9) (c : LinkChar) :
    charOdd (c ^^^ (1#11 <<< n)) = !charOdd c ∧ charMark (c ^^^ (1#11 <<< n)) = charMark c := by
  have hbit : ∀ k : Fin 11, 1 ≤ k.val → k.val ≠ 9 →
      charOdd (1#11 <<< k.val) = true ∧ (1#11 <<< k.val).getLsbD 9 = false := by decide
  obtain ⟨hodd, hclear⟩ := hbit ⟨n, by omega⟩ hlow hmark
  constructor
  · rw [charOdd_xor, hodd, Bool.xor_true]
  · rw [charMark, BitVec.getLsbD_xor, hclear, Bool.xor_false, charMark]

/-! ### What a list of characters amounts to (R136) -/

/-- The length that the fourth character carries. -/
def lengthOf (cs : List LinkChar) : Nat := (charData (cs.getD 3 0)).toNat

section
variable {cs : List LinkChar}

theorem examineChars_of_few (h : cs.length < 4) : examineChars cs = .more := by
  match cs with
  | [] => rfl
  | [c0] => rfl
  | [c0, c1] => rfl
  | [c0, c1, c2] => rfl
  | c0 :: c1 :: c2 :: c3 :: rest => simp at h; omega

/-- Four characters or more open with address, source, kind and length. -/
theorem exists_header (h : 4 ≤ cs.length) : ∃ c0 c1 c2 c3 rest, cs = c0 :: c1 :: c2 :: c3 :: rest := by
  match cs with
  | c0 :: c1 :: c2 :: c3 :: rest => exact ⟨c0, c1, c2, c3, rest, rfl⟩

theorem examineChars_of_long (h : 4 ≤ cs.length) (hlong : 48 < lengthOf cs) : examineChars cs = .overLength := by
  obtain ⟨c0, c1, c2, c3, rest, rfl⟩ := exists_header h
  exact if_pos hlong

theorem examineChars_of_partial (h : 4 ≤ cs.length) (hfits : lengthOf cs ≤ 48) (hpart : cs.length < 6 + lengthOf cs) :
    examineChars cs = .more := by
  obtain ⟨c0, c1, c2, c3, rest, rfl⟩ := exists_header h
  change (charData c3).toNat ≤ 48 at hfits
  change rest.length + 4 < 6 + (charData c3).toNat at hpart
  simp only [examineChars, List.map_cons, List.length_map, Config.longestPayload]
  rw [if_neg (Nat.not_lt.2 hfits), if_neg (by omega)]

/-- The last two bytes of a run are its last two. -/
theorem drop_eq_pair {bytes : List Byte} {n : Nat} (h : bytes.length = n + 2) :
    bytes.drop n = [bytes.getD n 0, bytes.getD (n + 1) 0] := by
  refine List.ext_getElem (by simp [h]) fun i hi hi' => ?_
  have htwo : i = 0 ∨ i = 1 := by
    rw [List.length_drop] at hi
    omega
  rw [List.getElem_drop]
  obtain rfl | rfl := htwo
  · simp [List.getD_eq_getElem?_getD, show n < bytes.length by omega]
  · simp [List.getD_eq_getElem?_getD, show n + 1 < bytes.length by omega]

theorem examineChars_of_whole (hfits : lengthOf cs ≤ 48) (hwhole : cs.length = 6 + lengthOf cs) :
    examineChars cs = .complete (heard cs) (cs.any charParityError) := by
  obtain ⟨c0, c1, c2, c3, rest, rfl⟩ := exists_header (cs := cs) (by omega)
  change (charData c3).toNat ≤ 48 at hfits
  change rest.length + 4 = 6 + (charData c3).toNat at hwhole
  have hrest : (rest.map charData).length = (charData c3).toNat + 2 := by
    rw [List.length_map]
    omega
  have hcheck (n : Nat) : ((c0 :: c1 :: c2 :: c3 :: rest).map charData).getD (4 + n) 0 = (rest.map charData).getD n 0 := by
    rw [Nat.add_comm]
    rfl
  have hheard : heard (c0 :: c1 :: c2 :: c3 :: rest) =
      ⟨⟨charData c0, charData c1, charData c2, (rest.map charData).take (charData c3).toNat⟩,
        wordOf ((rest.map charData).getD (charData c3).toNat 0) ((rest.map charData).getD ((charData c3).toNat + 1) 0)⟩ := by
    rw [← hcheck, ← hcheck, ← Nat.add_assoc, Nat.add_right_comm]
    rfl
  rw [hheard]
  simp only [examineChars, List.map_cons, List.length_map, Config.longestPayload]
  rw [if_neg (Nat.not_lt.2 hfits), if_pos (by omega), drop_eq_pair hrest]

end

/-! ### The characters of a sealed frame (R135, R165) -/

section
variable {f : SealedFrame}

theorem frameChars_eq (f : SealedFrame) : frameChars f = linkChar f.frame.address true ::
    ([f.frame.source, f.frame.kind, byteOfNat f.frame.payload.length] ++ f.frame.payload ++ wordBytes f.check).map
      (fun x => linkChar x false) := rfl

theorem map_charData_linkChar (bytes : List Byte) : (bytes.map (fun x => linkChar x false)).map charData = bytes := by
  rw [List.map_map]
  exact List.map_id'' (fun x => charData_linkChar x false) bytes

theorem map_charData_frameChars (f : SealedFrame) : (frameChars f).map charData = sealedBytes f := by
  rw [frameChars_eq, List.map_cons, charData_linkChar, map_charData_linkChar]
  rfl

theorem length_frameChars (f : SealedFrame) : (frameChars f).length = 6 + f.frame.payload.length := by
  rw [← List.length_map (f := charData), map_charData_frameChars]
  simp [sealedBytes, frameBytes, wordBytes]
  omega

theorem lengthOf_frameChars (h : f.frame.payload.length ≤ 48) : lengthOf (frameChars f) = f.frame.payload.length := by
  change (charData (linkChar (byteOfNat f.frame.payload.length) false)).toNat = _
  rw [charData_linkChar, byteOfNat, BitVec.toNat_ofNat]
  omega

theorem heard_frameChars (h : f.frame.payload.length ≤ 48) : heard (frameChars f) = f := by
  obtain ⟨⟨address, source, kind, payload⟩, check⟩ := f
  have hlength : (byteOfNat payload.length).toNat = payload.length := by
    rw [byteOfNat, BitVec.toNat_ofNat]
    change payload.length ≤ 48 at h
    omega
  have hbytes (n : Nat) : (address :: source :: kind :: byteOfNat payload.length :: payload ++ wordBytes check).getD
      (4 + (payload.length + n)) 0 = (wordBytes check).getD n 0 := by
    rw [Nat.add_comm 4]
    change (payload ++ wordBytes check).getD (payload.length + n) 0 = _
    rw [List.getD_append_right _ _ _ _ (Nat.le_add_right _ _), Nat.add_sub_cancel_left]
  have hhigh : (address :: source :: kind :: byteOfNat payload.length :: payload ++ wordBytes check).getD
      (4 + payload.length) 0 = highByte check := hbytes 0
  have hlow : (address :: source :: kind :: byteOfNat payload.length :: payload ++ wordBytes check).getD
      (5 + payload.length) 0 = lowByte check := by
    rw [show 5 + payload.length = 4 + (payload.length + 1) by omega]
    exact hbytes 1
  have hpayload : ((address :: source :: kind :: byteOfNat payload.length :: payload ++ wordBytes check).drop 4).take
      payload.length = payload := List.take_left' rfl
  have hn : ((address :: source :: kind :: byteOfNat payload.length :: payload ++ wordBytes check).getD 3 0).toNat =
      payload.length := hlength
  unfold heard
  rw [map_charData_frameChars, sealedBytes, frameBytes]
  dsimp only
  rw [hn, hhigh, hlow, hpayload, highByte_append_lowByte]
  rfl

theorem parity_frameChars (f : SealedFrame) : (frameChars f).any charParityError = false := by
  rw [frameChars_eq, List.any_eq_false]
  intro c hc
  obtain rfl | hc := List.mem_cons.1 hc
  · rw [charParityError_linkChar]
    decide
  · obtain ⟨x, -, rfl⟩ := List.mem_map.1 hc
    rw [charParityError_linkChar]
    decide

theorem idle_frameChars : ∀ c ∈ frameChars f, charIdle c = false := by
  intro c hc
  rw [frameChars_eq] at hc
  obtain rfl | hc := List.mem_cons.1 hc
  · exact charIdle_linkChar _ _
  · obtain ⟨x, -, rfl⟩ := List.mem_map.1 hc
    exact charIdle_linkChar _ _

/-- The mark stands on the address character alone. -/
theorem mark_frameChars (f : SealedFrame) :
    ∃ c rest, frameChars f = c :: rest ∧ charMark c = true ∧ ∀ x ∈ rest, charMark x = false := by
  refine ⟨_, _, frameChars_eq f, charMark_linkChar _ _, fun c hc => ?_⟩
  obtain ⟨x, -, rfl⟩ := List.mem_map.1 hc
  exact charMark_linkChar _ _

end

/-! ### The receiver, character by character (R136, R137) -/

section
variable {s : State} {c : LinkChar} {cs pre : List LinkChar}

theorem setReceiver_setReceiver (r r' : Receiver) (s : State) : setReceiver r (setReceiver r' s) = setReceiver r s := rfl

theorem setReceiver_self {r : Receiver} (h : s.lif.receiver = r) : setReceiver r s = s := by
  subst h
  rfl

theorem receiveChar_of_idle (h : charIdle c = true) : receiveChar s c = s := if_pos h

theorem receiveChar_hunt (h : charIdle c = false) (hhunt : s.lif.receiver = .hunt) :
    receiveChar s c = if charMark c then setReceiver (.collect [c]) s else s := by
  simp [receiveChar, h, hhunt]

theorem receiveChar_collect (h : charIdle c = false) (hcollect : s.lif.receiver = .collect cs) :
    receiveChar s c = if charMark c then setReceiver (.collect [c]) (noteDiscard .abandoned s)
      else match examineChars (cs ++ [c]) with
        | .more => setReceiver (.collect (cs ++ [c])) s
        | .overLength => noteDiscard .overLength (setReceiver .hunt s)
        | .complete f e => frameComplete f e (setReceiver .hunt s) := by
  simp only [receiveChar, h, hcollect, Bool.false_eq_true, if_false] <;> rfl

/-- Characters without the mark are collected as long as no frame has ended. -/
theorem foldl_receiveChar_collect (hidle : ∀ x ∈ cs, charIdle x = false) (hmark : ∀ x ∈ cs, charMark x = false)
    (hmore : ∀ n, 1 ≤ n → n ≤ cs.length → examineChars (pre ++ cs.take n) = .more) :
    cs.foldl receiveChar (setReceiver (.collect pre) s) = setReceiver (.collect (pre ++ cs)) s := by
  induction cs generalizing pre with
  | nil => rw [List.append_nil]; rfl
  | cons c cs ih =>
    have hfirst := hmore 1 (Nat.le_refl 1) (Nat.le_add_left 1 _)
    have hstep : receiveChar (setReceiver (.collect pre) s) c = setReceiver (.collect (pre ++ [c])) s := by
      rw [receiveChar_collect (cs := pre) (hidle c List.mem_cons_self) rfl, hmark c List.mem_cons_self]
      simp only [List.take_succ_cons, List.take_zero] at hfirst
      rw [hfirst]
      rfl
    rw [List.foldl_cons, hstep, ih (fun x hx => hidle x (List.mem_cons_of_mem c hx))
      (fun x hx => hmark x (List.mem_cons_of_mem c hx)), List.append_assoc]
    · rfl
    · intro n _ hn
      have hnext := hmore (n + 1) (Nat.le_add_left 1 n) (Nat.succ_le_succ hn)
      rwa [List.take_succ_cons, ← List.singleton_append, ← List.append_assoc] at hnext

/-- The characters of one frame as they come in: the mark on the first alone, none idle, and no end before the last. -/
structure FramedChars (cs : List LinkChar) : Prop where
  opens : ∃ c rest, cs = c :: rest ∧ charMark c = true ∧ ∀ x ∈ rest, charMark x = false
  busy : ∀ x ∈ cs, charIdle x = false
  more : ∀ n, n < cs.length → examineChars (cs.take n) = .more

/-- What the last character of a frame does, the ones before it being collected. -/
theorem foldl_receiveChar_framed (h : FramedChars cs) (hlong : 2 ≤ cs.length) (hhunt : s.lif.receiver = .hunt) :
    cs.foldl receiveChar s = match examineChars cs with
      | .more => setReceiver (.collect cs) s
      | .overLength => noteDiscard .overLength s
      | .complete f e => frameComplete f e s := by
  obtain ⟨⟨c, rest, rfl, hmark, hunmarked⟩, hbusy, hmore⟩ := h
  obtain ⟨mid, last, rfl⟩ : ∃ mid last, rest = mid ++ [last] := by
    have hne : rest ≠ [] := by
      rintro rfl
      simp at hlong
    exact ⟨rest.dropLast, rest.getLast hne, (List.dropLast_append_getLast hne).symm⟩
  have hopen : receiveChar s c = setReceiver (.collect [c]) s := by
    rw [receiveChar_hunt (hbusy c List.mem_cons_self) hhunt, if_pos hmark]
  have hcollected : mid.foldl receiveChar (setReceiver (.collect [c]) s) = setReceiver (.collect (c :: mid)) s := by
    refine foldl_receiveChar_collect (pre := [c]) (fun x hx => hbusy x (by simp [hx])) (fun x hx => hunmarked x (by simp [hx]))
      fun n _ hn => ?_
    have hprefix := hmore (n + 1) (by simp; omega)
    rwa [List.take_succ_cons, List.take_append_of_le_length hn] at hprefix
  have hlast : charMark last = false := hunmarked last (by simp)
  rw [List.foldl_cons, hopen, List.foldl_append, hcollected, List.foldl_cons, List.foldl_nil,
    receiveChar_collect (cs := c :: mid) (hbusy last (by simp)) rfl, hlast, if_neg Bool.false_ne_true,
    setReceiver_setReceiver, setReceiver_setReceiver, setReceiver_self hhunt]
  rfl

/-- Characters with the mark on the first alone, none idle, of a length that fits and as many as it says. -/
theorem framedChars_of_whole (hopens : ∃ c rest, cs = c :: rest ∧ charMark c = true ∧ ∀ x ∈ rest, charMark x = false)
    (hbusy : ∀ x ∈ cs, charIdle x = false) (hfits : lengthOf cs ≤ 48) (hwhole : cs.length = 6 + lengthOf cs) :
    FramedChars cs := by
  refine ⟨hopens, hbusy, fun n hn => ?_⟩
  have hlength : (cs.take n).length = n := List.length_take_of_le hn.le
  by_cases hfew : n < 4
  · exact examineChars_of_few (hlength.trans_lt hfew)
  · have hsame : lengthOf (cs.take n) = lengthOf cs := by
      rw [lengthOf, List.getD_eq_getElem?_getD, List.getElem?_take_of_lt (by omega), ← List.getD_eq_getElem?_getD, lengthOf]
    exact examineChars_of_partial (by omega) (hsame ▸ hfits) (by rw [hlength, hsame]; omega)

/-- The arrival of such characters is the end of the frame that they carry. -/
theorem exec_frameArrival_whole (hopens : ∃ c rest, cs = c :: rest ∧ charMark c = true ∧ ∀ x ∈ rest, charMark x = false)
    (hbusy : ∀ x ∈ cs, charIdle x = false) (hfits : lengthOf cs ≤ 48) (hwhole : cs.length = 6 + lengthOf cs)
    (hhunt : s.lif.receiver = .hunt) :
    exec (.frameArrival cs) s = .next (frameComplete (heard cs) (cs.any charParityError) s) := by
  have hframed := framedChars_of_whole hopens hbusy hfits hwhole
  refine congrArg Host.Outcome.next ?_
  rw [foldl_receiveChar_framed hframed (by omega) hhunt, examineChars_of_whole hfits hwhole]

/-- The arrival of a frame of up to 48 payload bytes, its check sequence right or wrong. -/
theorem exec_frameArrival_frame {f : SealedFrame} (h : f.frame.payload.length ≤ 48) (hhunt : s.lif.receiver = .hunt) :
    exec (.frameArrival (frameChars f)) s = .next (frameComplete f false s) := by
  have hlength := lengthOf_frameChars h
  have harrives := exec_frameArrival_whole (mark_frameChars f) idle_frameChars (hlength.trans_le h)
    (by rw [length_frameChars, hlength]) hhunt
  rwa [heard_frameChars h, parity_frameChars] at harrives

end

/-! ### The discard window (R139) -/

section
variable {s : State} {f : SealedFrame}

theorem windowAppend_eq (w : List Bool) (discarded : Bool) : windowAppend w discarded = outcomeAdded w discarded := by
  unfold windowAppend outcomeAdded
  simp only [List.length_append, List.length_singleton, Config.windowCapacity]
  by_cases hfull : 256 ≤ w.length
  · rw [if_pos (Nat.lt_succ_of_le hfull), if_pos hfull, List.drop_append_of_le_length (by omega)]
  · rw [if_neg (by omega), if_neg hfull]

/-- A frame end that passes, with the receiver in HUNT. -/
theorem notePassed_eq (hhunt : s.lif.receiver = .hunt) : notePassed s = passed s := by
  rw [notePassed, passed, windowAppend_eq, ← hhunt]

/-- Fewer than 8 discards held make 8 at most with one more. -/
theorem count_outcomeAdded (h : s.lif.discardWindow.count true < 8) :
    8 ≤ (windowAppend s.lif.discardWindow true).count true ↔ (outcomeAdded s.lif.discardWindow true).count true = 8 := by
  have hle := count_windowAppend_le s.lif.discardWindow true
  rw [← windowAppend_eq]
  constructor <;> intro hcount <;> simp at hle <;> omega

theorem noteDiscard_setReceiver (h : s.lif.discardWindow.count true < 8) (c : DiscardCause) (r : Receiver) :
    noteDiscard c (setReceiver r s) = discarded (BitVec.ofNat 8 c.code) r s := by
  unfold noteDiscard discarded
  have hcount := count_outcomeAdded h
  have hwindow : (setReceiver r s).lif.discardWindow = s.lif.discardWindow := rfl
  dsimp only
  rw [hwindow]
  by_cases hfull : (outcomeAdded s.lif.discardWindow true).count true = 8
  · rw [if_pos (hcount.2 hfull), if_pos hfull]
    rfl
  · rw [if_neg (mt hcount.1 hfull), if_neg hfull, ← windowAppend_eq]
    rfl

theorem setReceiver_noteDiscard (h : s.lif.discardWindow.count true < 8) (c : DiscardCause) (r : Receiver) :
    setReceiver r (noteDiscard c s) = discarded (BitVec.ofNat 8 c.code) r s := by
  rw [← noteDiscard_setReceiver h]
  unfold noteDiscard
  dsimp only
  have hwindow : (setReceiver r s).lif.discardWindow = s.lif.discardWindow := rfl
  rw [hwindow]
  split <;> rfl

theorem noteDiscard_eq (h : s.lif.discardWindow.count true < 8) (hhunt : s.lif.receiver = .hunt) (c : DiscardCause) :
    noteDiscard c s = discarded (BitVec.ofNat 8 c.code) .hunt s := by
  rw [← noteDiscard_setReceiver h, setReceiver_self hhunt]

/-! ### The tests of a complete frame (R138) -/

theorem frameCheckPasses_iff (f : SealedFrame) : frameCheckPasses f = true ↔ f.check = crc16 (frameBytes f.frame) := by
  rw [frameCheckPasses, beq_iff_eq, eq_comm]

theorem frameCheckPasses_sealFrame (f : Frame) : frameCheckPasses (sealFrame f) = true := (frameCheckPasses_iff _).2 rfl

theorem passFree_eq_zero_iff (h : s.lif.passFifo.length ≤ 12) : s.lif.passFree = 0 ↔ s.lif.passFifo.length = 12 := by
  rw [Lif.passFree, Config.passCapacity]
  omega

/-- A frame that passes every test is entered and dispatched. -/
theorem frameComplete_of_passes (hcheck : frameCheckPasses f = true)
    (hroom : toBeForwarded s.address f.frame = true → s.lif.passFifo.length < 12) :
    frameComplete f false s = dispatch f (notePassed s) := by
  have hcause : discardCauseOf s f false = none := by
    rw [discardCauseOf, if_neg Bool.false_ne_true, if_neg (by simp [hcheck]), if_neg]
    rintro ⟨hforwarded, hfull⟩
    have := hroom hforwarded
    rw [Lif.passFree, Config.passCapacity] at hfull
    omega
  simp only [frameComplete, hcause]

theorem frameComplete_of_parity : frameComplete f true s = noteDiscard .parity s := by
  simp only [frameComplete, discardCauseOf, if_true]

theorem frameComplete_of_check (hcheck : frameCheckPasses f = false) :
    frameComplete f false s = noteDiscard .checkSequence s := by
  simp only [frameComplete, discardCauseOf, Bool.false_eq_true, if_false, hcheck, Bool.not_false, if_true]

theorem frameComplete_of_full (hcheck : frameCheckPasses f = true) (hforwarded : toBeForwarded s.address f.frame = true)
    (hfull : s.lif.passFifo.length = 12) : frameComplete f false s = noteDiscard .passFull s := by
  have hfree : s.lif.passFree = 0 := by rw [Lif.passFree, hfull]; rfl
  simp [frameComplete, discardCauseOf, hcheck, hforwarded, hfree]

/-- A sealed frame with room for it arrives whole and is dispatched. -/
theorem exec_arrival {f : Frame} (h : f.payload.length ≤ 48) (hhunt : s.lif.receiver = .hunt)
    (hroom : toBeForwarded s.address f = true → s.lif.passFifo.length < 12) :
    exec (arrival f) s = .next (dispatch (sealFrame f) (passed s)) := by
  rw [arrival, exec_frameArrival_frame (f := sealFrame f) h hhunt,
    frameComplete_of_passes (frameCheckPasses_sealFrame f) hroom, notePassed_eq hhunt]

end

/-- Settles O44: the characters carry the frame, no end stands before the last, and the end passes every test. -/
theorem frameRoundTrip : Obligations.FrameRoundTrip := by
  intro f hlength
  have hfits : lengthOf (frameChars (sealFrame f)) = f.payload.length := lengthOf_frameChars (f := sealFrame f) hlength
  have hwhole : (frameChars (sealFrame f)).length = 6 + lengthOf (frameChars (sealFrame f)) := by
    rw [hfits]
    exact length_frameChars (sealFrame f)
  have hframed := framedChars_of_whole (mark_frameChars (sealFrame f)) idle_frameChars (hfits.trans_le hlength) hwhole
  refine ⟨hframed.more, ?_, frameCheckPasses_sealFrame f, fun s hhunt hroom => exec_arrival hlength hhunt hroom⟩
  rw [examineChars_of_whole (hfits.trans_le hlength) hwhole, heard_frameChars (f := sealFrame f) hlength, parity_frameChars]

end Sys2Proof.Machine
end

section
/-! The link characters at the receiver, the frames that it discards, and the round trip of a jar record (R15, R135 to R139). -/

namespace Sys2Proof.Machine

open Sys2Proof.Claims

/-! ### One character at the receiver (R136) -/

section
variable {s : State} {c : LinkChar} {cs : List LinkChar}

theorem receiveChar_more (h : charIdle c = false) (hcollect : s.lif.receiver = .collect cs) (hmark : charMark c = false)
    (hmore : examineChars (cs ++ [c]) = .more) : receiveChar s c = setReceiver (.collect (cs ++ [c])) s := by
  rw [receiveChar_collect h hcollect, hmark, if_neg Bool.false_ne_true, hmore]

theorem receiveChar_overLength (h : charIdle c = false) (hcollect : s.lif.receiver = .collect cs) (hmark : charMark c = false)
    (hlong : examineChars (cs ++ [c]) = .overLength) : receiveChar s c = noteDiscard .overLength (setReceiver .hunt s) := by
  rw [receiveChar_collect h hcollect, hmark, if_neg Bool.false_ne_true, hlong]

theorem receiveChar_complete {f : SealedFrame} {e : Bool} (h : charIdle c = false) (hcollect : s.lif.receiver = .collect cs)
    (hmark : charMark c = false) (hwhole : examineChars (cs ++ [c]) = .complete f e) :
    receiveChar s c = frameComplete f e (setReceiver .hunt s) := by
  rw [receiveChar_collect h hcollect, hmark, if_neg Bool.false_ne_true, hwhole]

/-- A character after the fourth leaves the length that the fourth carries. -/
theorem lengthOf_append (h : 4 ≤ cs.length) (c : LinkChar) : lengthOf (cs ++ [c]) = (charData cs[3]).toNat := by
  rw [lengthOf, List.getD_append _ _ _ _ (by omega), List.getD_eq_getElem _ _ (by omega)]

theorem lengthOf_fourth (h : cs.length = 3) (c : LinkChar) : lengthOf (cs ++ [c]) = (charData c).toNat := by
  rw [lengthOf, List.getD_append_right _ _ _ _ h.le, h, Nat.sub_self]
  rfl

/-- The tests of a complete frame in their order, with the receiver back in HUNT (R138). -/
theorem frameComplete_hunt (hbounded : LinkBounded s) (f : SealedFrame) (e : Bool) :
    frameComplete f e (setReceiver .hunt s) =
      if e = true then discarded 2 .hunt s
      else if f.check ≠ crc16 (frameBytes f.frame) then discarded 3 .hunt s
      else if toBeForwarded s.address f.frame = true ∧ s.lif.passFifo.length = 12 then discarded 4 .hunt s
      else dispatch f (passed s) := by
  obtain ⟨hfifo, -, -, hcount⟩ := hbounded
  have hdiscard (cause : DiscardCause) := noteDiscard_setReceiver hcount cause .hunt
  cases e
  case true => exact frameComplete_of_parity.trans (hdiscard .parity)
  case false =>
    rw [if_neg Bool.false_ne_true]
    by_cases hcheck : f.check = crc16 (frameBytes f.frame)
    · rw [if_neg (not_not_intro hcheck)]
      have hpasses := (frameCheckPasses_iff f).2 hcheck
      by_cases hfull : toBeForwarded s.address f.frame = true ∧ s.lif.passFifo.length = 12
      · rw [if_pos hfull]
        exact (frameComplete_of_full (s := setReceiver .hunt s) hpasses hfull.1 hfull.2).trans (hdiscard .passFull)
      · rw [if_neg hfull, frameComplete_of_passes hpasses, notePassed_eq rfl]
        · rfl
        · exact fun hforwarded => lt_of_le_of_ne hfifo fun h => hfull ⟨hforwarded, h⟩
    · rw [if_pos hcheck]
      have hfails : frameCheckPasses f = false := Bool.eq_false_iff.2 (mt (frameCheckPasses_iff f).1 hcheck)
      exact (frameComplete_of_check hfails).trans (hdiscard .checkSequence)

end

/-- Settles O46: by the state of the receiver, the character, and how many characters the frame has then. -/
theorem receiverTakesCharacters : Obligations.ReceiverTakesCharacters := by
  intro c s hbounded
  have hcount : s.lif.discardWindow.count true < 8 := hbounded.2.2.2
  refine ⟨receiveChar s c, rfl, receiveChar_of_idle, ?_, ?_, ?_, ?_, ?_, ?_, ?_⟩
  case _ => exact fun hbusy hhunt hmark => by rw [receiveChar_hunt hbusy hhunt, hmark, if_neg Bool.false_ne_true]
  case _ => exact fun hbusy hhunt hmark => by rw [receiveChar_hunt hbusy hhunt, if_pos hmark]; rfl
  case _ =>
    intro cs hbusy hcollect hmark
    rw [receiveChar_collect hbusy hcollect, if_pos hmark]
    exact setReceiver_noteDiscard hcount .abandoned _
  case _ =>
    intro cs hbusy hcollect hmark hfew
    exact receiveChar_more hbusy hcollect hmark (examineChars_of_few (by simp; omega))
  case _ =>
    intro cs hbusy hcollect hmark hfourth
    have hlength := lengthOf_fourth hfourth c
    by_cases hlong : 48 < (charData c).toNat
    · rw [if_pos hlong, receiveChar_overLength hbusy hcollect hmark
        (examineChars_of_long (by simp [hfourth]) (hlength ▸ hlong))]
      exact noteDiscard_setReceiver hcount .overLength _
    · rw [if_neg hlong]
      exact receiveChar_more hbusy hcollect hmark
        (examineChars_of_partial (by simp [hfourth]) (by omega) (by simp [hfourth, hlength]; omega))
  case _ =>
    intro cs h hbusy hcollect hmark hpart hfits
    have hlength := lengthOf_append h c
    exact receiveChar_more hbusy hcollect hmark (examineChars_of_partial (by simp; omega) (by omega) (by simp; omega))
  case _ =>
    intro cs h hbusy hcollect hmark hwhole hfits
    have hlength := lengthOf_append h c
    have hend := examineChars_of_whole (cs := cs ++ [c]) (by omega) (by simp; omega)
    simp only [← List.any_eq_true]
    rw [receiveChar_complete hbusy hcollect hmark hend]
    exact frameComplete_hunt hbounded _ _

/-! ### Frames that are discarded (R138, R139) -/

section
variable {cs : List LinkChar}

/-- A flipped bit keeps the mark on the first character alone. -/
theorem mark_set_flipped {i n : Nat} (hlow : 1 ≤ n) (hhigh : n ≤ 10) (hbit : n ≠ 9) {c : LinkChar} (hc : cs[i]? = some c)
    (h : ∃ c rest, cs = c :: rest ∧ charMark c = true ∧ ∀ x ∈ rest, charMark x = false) :
    ∃ d rest, cs.set i (c ^^^ (1#11 <<< n)) = d :: rest ∧ charMark d = true ∧ ∀ x ∈ rest, charMark x = false := by
  obtain ⟨first, rest, rfl, hfirst, hrest⟩ := h
  have hmark := (flipped_char hlow hhigh hbit c).2
  cases i with
  | zero =>
    obtain rfl : first = c := by simpa using hc
    exact ⟨_, rest, rfl, hmark.trans hfirst, hrest⟩
  | succ i =>
    refine ⟨first, rest.set i (c ^^^ (1#11 <<< n)), rfl, hfirst, fun x hx => ?_⟩
    obtain hx | rfl := List.mem_or_eq_of_mem_set hx
    · exact hrest x hx
    · exact hmark.trans (hrest c (List.mem_of_getElem? hc))

/-- A flipped bit is a parity error unless the character turns idle. -/
theorem parity_set_flipped {i n : Nat} (hlow : 1 ≤ n) (hhigh : n ≤ 10) (hbit : n ≠ 9) {c : LinkChar} (hc : cs[i]? = some c)
    (hodd : charOdd c = true) (hbusy : charIdle (c ^^^ (1#11 <<< n)) = false) :
    (cs.set i (c ^^^ (1#11 <<< n))).any charParityError = true := by
  have hi : i < cs.length := (List.getElem?_eq_some_iff.1 hc).1
  refine List.any_eq_true.2 ⟨_, List.mem_set hi _, ?_⟩
  rw [charParityError, hbusy, (flipped_char hlow hhigh hbit c).1, hodd]
  rfl

theorem lengthOf_set {i : Nat} (h : i ≠ 3) (c : LinkChar) : lengthOf (cs.set i c) = lengthOf cs := by
  rw [lengthOf, List.getD_eq_getElem?_getD, List.getElem?_set_ne h, ← List.getD_eq_getElem?_getD, lengthOf]

theorem odd_frameChars {f : SealedFrame} : ∀ c ∈ frameChars f, charOdd c = true := by
  intro c hc
  rw [frameChars_eq] at hc
  obtain rfl | hc := List.mem_cons.1 hc
  · exact charOdd_linkChar _ _
  · obtain ⟨x, -, rfl⟩ := List.mem_map.1 hc
    exact charOdd_linkChar _ _

end

theorem framedChars_of_overLength {address source kind length : Byte} :
    FramedChars [linkChar address true, linkChar source false, linkChar kind false, linkChar length false] where
  opens := ⟨_, _, rfl, charMark_linkChar _ _, by simp [charMark_linkChar]⟩
  busy := by simp [charIdle_linkChar]
  more n hn := examineChars_of_few (by simpa using hn)

/-- A frame of another station to an address 0..63 that is not own is to be forwarded (R140). -/
theorem toBeForwarded_of_listed {own : Byte} {f : Frame} (haddress : f.address ≠ own) (hsource : f.source ≠ own)
    (hlisted : f.address.toNat ≤ 63) : toBeForwarded own f = true := by
  simp only [toBeForwarded, dispatchAction, if_neg haddress, if_neg hsource, if_pos hlisted]
  by_cases hmaster : f.address = 0
  · rw [if_pos hmaster]
    by_cases hkind : f.kind = kindPitch
    · rw [if_pos hkind]
    · rw [if_neg hkind]
  · rw [if_neg hmaster]

/-- Settles O47: each discard is the test of R138 that the frame fails first, entered in the window of R139. -/
theorem framesDiscarded : Obligations.FramesDiscarded := by
  intro s ⟨hfifo, _, _, hcount⟩ hhunt
  have hdiscard := noteDiscard_eq hcount hhunt
  refine ⟨?overLength, ?parity, ?check, ?full⟩
  case overLength =>
    intro address source kind length hlong
    refine congrArg Host.Outcome.next ?_
    rw [foldl_receiveChar_framed framedChars_of_overLength (by simp) hhunt,
      examineChars_of_long (by simp) (by rwa [lengthOf, List.getD_cons_succ, List.getD_cons_succ, List.getD_cons_succ,
        List.getD_cons_zero, charData_linkChar])]
    exact hdiscard .overLength
  case parity =>
    intro f i n c hlength hi hlow hhigh hbit hc hbusy
    have hfits : lengthOf (frameChars (sealFrame f)) = f.payload.length := lengthOf_frameChars (f := sealFrame f) hlength
    have hsame := lengthOf_set (cs := frameChars (sealFrame f)) hi (c ^^^ (1#11 <<< n))
    have hodd := odd_frameChars c (List.mem_of_getElem? hc)
    rw [exec_frameArrival_whole (mark_set_flipped hlow hhigh hbit hc (mark_frameChars _)) ?busy
      (by rw [hsame, hfits]; exact hlength)
      (by rw [List.length_set, hsame, hfits]; exact length_frameChars (sealFrame f)) hhunt,
      parity_set_flipped hlow hhigh hbit hc hodd hbusy, frameComplete_of_parity]
    case busy =>
      intro x hx
      obtain hx | rfl := List.mem_or_eq_of_mem_set hx
      · exact idle_frameChars x hx
      · exact hbusy
    exact congrArg Host.Outcome.next (hdiscard .parity)
  case check =>
    intro f hlength hcheck
    have hfails : frameCheckPasses f = false := Bool.eq_false_iff.2 (mt (frameCheckPasses_iff f).1 hcheck)
    rw [exec_frameArrival_frame hlength hhunt, frameComplete_of_check hfails]
    exact congrArg Host.Outcome.next (hdiscard .checkSequence)
  case full =>
    intro f hlength hfull haddress hsource hlisted
    have hforwarded : toBeForwarded s.address f = true := toBeForwarded_of_listed haddress hsource hlisted
    rw [arrival, exec_frameArrival_frame (f := sealFrame f) hlength hhunt,
      frameComplete_of_full (frameCheckPasses_sealFrame f) hforwarded hfull]
    exact congrArg Host.Outcome.next (hdiscard .passFull)

/-! ### JAR payloads (R14, R15, R165) -/

theorem parseAnnotations_annotationBytes (annotations : List Annotation) :
    parseAnnotations (annotations.flatMap annotationBytes) = annotations := by
  induction annotations with
  | nil => rfl
  | cons a annotations ih =>
    rw [List.flatMap_cons]
    change ⟨a.station, a.code, highByte a.valueA ++ lowByte a.valueA, highByte a.valueB ++ lowByte a.valueB⟩ ::
      parseAnnotations (annotations.flatMap annotationBytes) = _
    rw [highByte_append_lowByte, highByte_append_lowByte, ih]

theorem length_annotationBytes (annotations : List Annotation) :
    (annotations.flatMap annotationBytes).length = 6 * annotations.length := by
  induction annotations with
  | nil => rfl
  | cons a annotations ih =>
    rw [List.flatMap_cons, List.length_append, ih, List.length_cons]
    change 6 + _ = _
    omega

/-- The four bytes of a serial number, high byte first, put together again. -/
theorem serialBytes_append (n : BitVec 32) :
    n.extractLsb' 24 8 ++ n.extractLsb' 16 8 ++ n.extractLsb' 8 8 ++ n.extractLsb' 0 8 = n := by
  refine BitVec.eq_of_getLsbD_eq fun i hi => ?_
  simp only [BitVec.getLsbD_append, BitVec.getLsbD_extractLsb']
  grind

/-- The payload with any flags byte that carries the temperature flag in bit 0. -/
theorem parseRecord_recordBytes {r : JarRecord} {flags : Byte} (h : r.annotations.length ≤ 6)
    (hflags : flags.getLsbD 0 = r.tempPresent) : parseRecord ((recordBytes r).set 8 flags) = some r := by
  obtain ⟨pitch, serial, recipe, verdict, tempPresent, temp, annotations⟩ := r
  change annotations.length ≤ 6 at h
  change flags.getLsbD 0 = tempPresent at hflags
  have hcount : (byteOfNat annotations.length).toNat = annotations.length := by
    rw [byteOfNat, BitVec.toNat_ofNat]
    omega
  have hbytes : (recordBytes ⟨pitch, serial, recipe, verdict, tempPresent, temp, annotations⟩).set 8 flags =
      highByte pitch :: lowByte pitch :: serial.extractLsb' 24 8 :: serial.extractLsb' 16 8 :: serial.extractLsb' 8 8 ::
        serial.extractLsb' 0 8 :: recipe :: verdict :: flags :: byteOfNat annotations.length :: highByte temp ::
        lowByte temp :: annotations.flatMap annotationBytes := rfl
  have hfits : (annotations.flatMap annotationBytes).length = 6 * (byteOfNat annotations.length).toNat ∧
      (byteOfNat annotations.length).toNat ≤ 6 := by
    rw [hcount]
    exact ⟨length_annotationBytes annotations, h⟩
  rw [hbytes, parseRecord, if_pos hfits, parseAnnotations_annotationBytes, serialBytes_append, hflags]
  simp only [wordOf, highByte_append_lowByte]

theorem length_recordBytes (r : JarRecord) : (recordBytes r).length = 12 + 6 * r.annotations.length := by
  rw [← length_annotationBytes]
  simp [recordBytes, wordBytes, serialBytes]
  omega

/-- What is read as a record has the length that its annotation count says. -/
theorem length_of_parseRecord {payload : List Byte} {r : JarRecord} (h : parseRecord payload = some r) :
    payload.length = 12 + 6 * (payload.getD 9 0).toNat ∧ (payload.getD 9 0).toNat ≤ 6 := by
  unfold parseRecord at h
  split at h
  case h_1 p1 p0 s3 s2 s1 s0 recipe verdict flags n t1 t0 rest =>
    split at h
    case isTrue hfits =>
      refine ⟨?_, hfits.2⟩
      change rest.length + 12 = 12 + 6 * n.toNat
      rw [hfits.1, Nat.add_comm]
    case isFalse => cases h
  case h_2 => cases h

/-- Settles O45: each field from its own bytes, and a record from no other length. -/
theorem recordRoundTrip : Obligations.RecordRoundTrip := by
  refine ⟨fun r hshort => ⟨length_recordBytes r, ?_⟩, fun payload hbad => ?_⟩
  · have hsent : (recordBytes r).set 8 (if r.tempPresent then 1#8 else 0#8) = recordBytes r := rfl
    rw [← hsent]
    exact parseRecord_recordBytes hshort (by cases r.tempPresent <;> rfl)
  · refine Option.eq_none_iff_forall_ne_some.2 fun r hr => ?_
    obtain ⟨hlength, hcount⟩ := length_of_parseRecord hr
    omega

end Sys2Proof.Machine
end

section
/-! The downstream port and the dispatch of the frames that pass: forwarding, the PITCH and JAR frames of the station, and the
requests (R9 to R11, R15, R19 to R25, R140 to R149). -/

namespace Sys2Proof.Machine

open Sys2Proof.Claims

/-! ### The stamp of a PITCH frame (R146, R166) -/

theorem stampFrame_eq_stamped (own : Byte) (halt : Bool) (f : Frame) : stampFrame own halt f = stamped own halt f := by
  refine congrArg (fun payload => { f with payload := payload }) (List.ext_getElem? fun i => ?_)
  rw [List.getElem?_modify, List.getElem?_mapIdx]
  simp only [haltByteIndex, putBit, eq_comm (a := 9 - own.toNat / 8)]
  rfl

theorem forwardedAsSent_eq_leaving (s : State) (f : SealedFrame) :
    forwardedAsSent s.address s.flt.haltRequest f = leaving s f := by
  rw [forwardedAsSent, stampFrame_eq_stamped]
  rfl

theorem ownAsSent_eq_leavingOwn (s : State) (f : Frame) : ownAsSent s.address s.flt.haltRequest f = leavingOwn s f := by
  rw [ownAsSent, stampFrame_eq_stamped]
  rfl

/-! ### The arbiter (R142, R145) -/

theorem holdAfterLeave_eq (later : List SealedFrame) (hold : Bool) :
    holdAfterLeave (12 - later.length) hold = if later.length ≤ 6 then false else hold :=
  if_congr (by omega) rfl rfl

theorem prefersOwn_iff {s : State} {g : SealedFrame} {later : List SealedFrame} (hpass : s.lif.passFifo = g :: later) :
    prefersOwn s = true ↔ s.configWord .localFirst = 1 ∨ later.length + 1 ≤ 8 := by
  rw [prefersOwn, Bool.or_eq_true, beq_iff_eq, decide_eq_true_iff, Lif.passFree, hpass, List.length_cons]
  exact or_congr_right (by change 4 ≤ 12 - _ ↔ _; omega)

/-- A run on an idle port with the downstream HOLD released. -/
theorem arbitrated_runArbiter {s : State} (hidle : s.lif.sending = none) (hfree : s.pins.downstreamHold = false) :
    Arbitrated s (runArbiter s).lif := by
  unfold Arbitrated
  split
  next hown hpass =>
    rw [runArbiter_of_nothing hown hpass, ← hidle]
  next f rest hown hpass =>
    rw [runArbiter_of_own hfree hown (.inr hpass), ownAsSent_eq_leavingOwn]
    rfl
  next g later hown hpass =>
    rw [runArbiter_of_forwarded hfree hpass (.inl hown), forwardedAsSent_eq_leaving, holdAfterLeave_eq]
    rfl
  next f rest g later hown hpass =>
    split
    next hchoice =>
      rw [runArbiter_of_own hfree hown (.inl ((prefersOwn_iff hpass).2 hchoice)), ownAsSent_eq_leavingOwn]
      rfl
    next hchoice =>
      have hrefuses : prefersOwn s = false := Bool.eq_false_iff.2 (mt (prefersOwn_iff hpass).1 hchoice)
      rw [runArbiter_of_forwarded hfree hpass (.inr hrefuses), forwardedAsSent_eq_leaving, holdAfterLeave_eq]
      rfl

theorem runArbiterIfIdle_eq_setLif (s : State) : runArbiterIfIdle s = s.setLif (runArbiterIfIdle s).lif := by
  unfold runArbiterIfIdle
  split
  · exact runArbiter_eq_setLif s
  · rfl

/-- Settles O51: the arbiter after a completion and after a released HOLD, each on an idle port. -/
theorem downstreamPortArbitrates : Obligations.DownstreamPortArbitrates := by
  refine ⟨fun s hbusy => ?_, fun s => rfl, fun s => ?_⟩
  · refine ⟨runArbiter (s.setLif { s.lif with sending := none }), congrArg Host.Outcome.next (if_neg hbusy), ?_, ?_, ?_⟩
    · exact runArbiter_eq_setLif (s.setLif { s.lif with sending := none })
    · intro hhold
      rw [runArbiter_of_hold (by exact hhold)]
      rfl
    · exact fun hfree => arbitrated_runArbiter (s := s.setLif { s.lif with sending := none }) rfl hfree
  · refine ⟨_, rfl, ?_, ?_, ?_⟩
    · exact runArbiterIfIdle_eq_setLif (s.setPins { s.pins with downstreamHold := false })
    · intro hbusy
      rw [runArbiterIfIdle, if_neg (by exact hbusy)]
      rfl
    · intro hidle
      rw [runArbiterIfIdle, if_pos (by exact hidle)]
      exact arbitrated_runArbiter (s := s.setPins { s.pins with downstreamHold := false }) hidle rfl

/-! ### Forwarding (R140 to R142) -/

section
variable {s : State} {f : SealedFrame}

theorem holdAfterJoin_eq (n : Nat) (hold : Bool) : holdAfterJoin (12 - (n + 1)) hold = if 9 ≤ n + 1 then true else hold :=
  if_congr (by omega) rfl rfl

/-- The frame at the tail of the Pass FIFO, and the upstream HOLD that follows (R141, R142). -/
def joinedPass (f : SealedFrame) (s : State) : State :=
  s.setLif { s.lif with
    passFifo := s.lif.passFifo ++ [f]
    upstreamHold := if 9 ≤ s.lif.passFifo.length + 1 then true else s.lif.upstreamHold }

theorem forwardFrame_eq (f : SealedFrame) (s : State) : forwardFrame f s = runArbiterIfIdle (joinedPass f s) := by
  rw [joinedPass, ← holdAfterJoin_eq]
  simp only [forwardFrame, List.length_append, List.length_singleton, Config.passCapacity]

theorem forwardFrame_eq_setLif (f : SealedFrame) (s : State) : forwardFrame f s = s.setLif (forwardFrame f s).lif := by
  rw [forwardFrame_eq]
  exact runArbiterIfIdle_eq_setLif (joinedPass f s)

/-- A frame with nothing before it leaves at once, another waits at the tail. -/
theorem forwarded_forwardFrame (hserved : PortServed s) : Forwarded s f (forwardFrame f s).lif := by
  rw [Forwarded, forwardFrame_eq]
  split
  next hready =>
    obtain ⟨hidle, hfree⟩ := hready
    obtain ⟨hpass, hown⟩ := hserved hidle hfree
    have hfirst : (joinedPass f s).lif.passFifo = [f] := congrArg (· ++ [f]) hpass
    rw [runArbiterIfIdle, if_pos (by exact hidle), runArbiter_of_forwarded (by exact hfree) hfirst (.inl hown),
      ← forwardedAsSent_eq_leaving]
    exact congrArg (fun fifo => { s.lif with
      passFifo := fifo
      sending := some (forwardedAsSent s.address s.flt.haltRequest f)
      upstreamHold := false }) hpass.symm
  next hwaits =>
    have hstays : runArbiterIfIdle (joinedPass f s) = joinedPass f s := by
      by_cases hidle : s.lif.sending = none
      · have hhold : s.pins.downstreamHold = true := by simpa [hidle] using hwaits
        rw [runArbiterIfIdle, if_pos (by exact hidle), runArbiter_of_hold (by exact hhold)]
      · exact if_neg hidle
    rw [hstays]
    rfl

/-! ### Dispatch (R140) -/

theorem dispatch_of_drop (h : dispatchAction s.address f.frame = .drop) : dispatch f s = s := by
  simp only [dispatch, h]

theorem dispatch_of_forward (h : dispatchAction s.address f.frame = .forward) : dispatch f s = forwardFrame f s := by
  simp only [dispatch, h]

theorem dispatch_of_track (h : dispatchAction s.address f.frame = .trackAndForward) :
    dispatch f s = forwardFrame f (pitchFrameArrival f.frame.payload s) := by
  simp only [dispatch, h]

theorem dispatch_of_infeed (h : dispatchAction s.address f.frame = .toInfeed) :
    dispatch f s = jarFrameArrival f.frame.payload s := by
  simp only [dispatch, h]

theorem dispatch_of_management (h : dispatchAction s.address f.frame = .toManagement) :
    dispatch f s = takeRequest f.frame.payload s := by
  simp only [dispatch, h]

end

/-- The arrival of a frame that is not to be forwarded needs no room. -/
theorem exec_arrival_unforwarded {s : State} {f : Frame} (h : f.payload.length ≤ 48) (hhunt : s.lif.receiver = .hunt)
    (hkept : toBeForwarded s.address f = false) : exec (arrival f) s = .next (dispatch (sealFrame f) (passed s)) :=
  exec_arrival h hhunt fun hforwarded => absurd hforwarded (by simp [hkept])

/-- Settles O48: the row of R140 for the frame, then what forwarding leaves. -/
theorem framesForwardedOrDropped : Obligations.FramesForwardedOrDropped := by
  intro f s hhunt hlength hserved
  have hdrops (hdrop : dispatchAction s.address f = .drop) : exec (arrival f) s = .next (passed s) := by
    rw [exec_arrival_unforwarded hlength hhunt (by simp only [toBeForwarded, hdrop])]
    exact congrArg Host.Outcome.next (dispatch_of_drop (s := passed s) hdrop)
  refine ⟨fun hown hjar hreq => hdrops ?_, fun hother hsource => hdrops ?_, ?_⟩
  · rw [dispatchAction, if_pos hown, if_neg (by exact hjar), if_neg (by exact hreq)]
  · rw [dispatchAction, if_neg hother, if_pos hsource]
  · intro hother hsource hlisted hpitch hroom
    have hforward : dispatchAction s.address f = .forward := by
      rw [dispatchAction, if_neg hother, if_neg hsource]
      by_cases hmaster : f.address = 0
      · rw [if_pos hmaster, if_neg (by exact hpitch hmaster)]
      · rw [if_neg hmaster, if_pos hlisted]
    refine ⟨_, exec_arrival hlength hhunt fun _ => hroom, ?_⟩
    rw [dispatch_of_forward (s := passed s) (f := sealFrame f) hforward]
    exact ⟨forwardFrame_eq_setLif _ (passed s), forwarded_forwardFrame (s := passed s) hserved⟩

end Sys2Proof.Machine
end

section
/-! What the station takes from the link: the jar records of the Infeed Queue, the master's pitch, and the requests (R9 to
R11, R15, R19 to R25, R149, R150). -/

namespace Sys2Proof.Machine

open Sys2Proof.Claims

/-! ### Frames for the station (R140) -/

section
variable {s : State} {source : Byte} {payload : List Byte}

theorem dispatchAction_jar (own source : Byte) (payload : List Byte) :
    dispatchAction own ⟨own, source, 2, payload⟩ = .toInfeed := by
  rw [dispatchAction, if_pos rfl, if_pos (by rfl)]

theorem dispatchAction_request (own source : Byte) (payload : List Byte) :
    dispatchAction own ⟨own, source, 3, payload⟩ = .toManagement := by
  rw [dispatchAction, if_pos rfl, if_neg (show (3 : Byte) ≠ kindJar by decide), if_pos (by rfl)]

theorem exec_arrival_jar (hhunt : s.lif.receiver = .hunt) (h : payload.length ≤ 48) :
    exec (arrival ⟨s.address, source, 2, payload⟩) s = .next (jarFrameArrival payload (passed s)) := by
  have haction := dispatchAction_jar s.address source payload
  rw [exec_arrival_unforwarded h hhunt (by simp only [toBeForwarded, haction])]
  exact congrArg Host.Outcome.next (dispatch_of_infeed (s := passed s) haction)

theorem exec_arrival_request (hhunt : s.lif.receiver = .hunt) (h : payload.length ≤ 48) :
    exec (arrival ⟨s.address, source, 3, payload⟩) s = .next (takeRequest payload (passed s)) := by
  have haction := dispatchAction_request s.address source payload
  rw [exec_arrival_unforwarded h hhunt (by simp only [toBeForwarded, haction])]
  exact congrArg Host.Outcome.next (dispatch_of_management (s := passed s) haction)

end

/-! ### Arrival of a record (R19 to R22) -/

section
variable {s : State} {r : JarRecord}

theorem jarFrameArrival_some {payload : List Byte} (h : parseRecord payload = some r) :
    jarFrameArrival payload s = recordArrival r s := by
  simp only [jarFrameArrival, h]

theorem jarFrameArrival_none {payload : List Byte} (h : parseRecord payload = none) : jarFrameArrival payload s = s := by
  simp only [jarFrameArrival, h]

theorem recordArrival_synced (h : s.ptk.sync = .synced) : recordArrival r s =
    if recordOffset s.ptk.p r = 0 then s.raise .infeedStale (lowByte r.pitch)
    else if recordOffset s.ptk.p r ≤ 64 then queueRecord r s
    else if recordOffset s.ptk.p r ≤ 32768 then s.raise .pitchSkew (byteOfNat (min (recordOffset s.ptk.p r) 127))
    else s.raise .infeedStale (lowByte r.pitch) := by
  simp only [recordArrival, h]

theorem recordArrival_stale (h : s.ptk.sync = .synced)
    (hoffset : recordOffset s.ptk.p r = 0 ∨ 32769 ≤ recordOffset s.ptk.p r) :
    recordArrival r s = s.raise .infeedStale (lowByte r.pitch) := by
  rw [recordArrival_synced h]
  obtain hlevel | hbehind := hoffset
  · rw [if_pos hlevel]
  · rw [if_neg (by omega), if_neg (by omega), if_neg (by omega)]

theorem recordArrival_skew (h : s.ptk.sync = .synced) (hlow : 65 ≤ recordOffset s.ptk.p r)
    (hhigh : recordOffset s.ptk.p r ≤ 32768) :
    recordArrival r s = s.raise .pitchSkew (byteOfNat (min (recordOffset s.ptk.p r) 127)) := by
  rw [recordArrival_synced h, if_neg (by omega), if_neg (by omega), if_pos hhigh]

/-- A record that no test of R19 turns away goes to the queue. -/
theorem recordArrival_untested
    (h : s.ptk.sync = .unsynced ∨ 1 ≤ recordOffset s.ptk.p r ∧ recordOffset s.ptk.p r ≤ 64) :
    recordArrival r s = queueRecord r s := by
  cases hsync : s.ptk.sync with
  | unsynced => simp only [recordArrival, hsync]
  | synced =>
    obtain hunsynced | ⟨hlow, hhigh⟩ := h
    · rw [hsync] at hunsynced
      cases hunsynced
    · rw [recordArrival_synced hsync, if_neg (by omega), if_pos hhigh]

theorem queueRecord_of_known (h : ∃ q ∈ s.ifq, q.pitch = r.pitch) : queueRecord r s = s.setIfq (replaceRecord r s.ifq) := by
  rw [queueRecord, if_pos (by simpa using h)]

theorem queueRecord_of_new (h : ∀ q ∈ s.ifq, q.pitch ≠ r.pitch) : queueRecord r s =
    if s.ifq.length < 24 then s.setIfq (insertRecord s.ptk.p r s.ifq) else s.raise .infeedOverflow (lowByte r.pitch) := by
  rw [queueRecord, if_neg (by simpa using h)]

/-- The place of a record by its offset, with no record of its pitch queued (R18, R21). -/
theorem insertRecord_eq_append {p : Word} {rs : List JarRecord}
    (hordered : rs.Pairwise (fun a b => recordOffset p a < recordOffset p b)) (hnew : ∀ q ∈ rs, q.pitch ≠ r.pitch) :
    ∃ before after, rs = before ++ after ∧ insertRecord p r rs = before ++ r :: after ∧
      (∀ q ∈ before, recordOffset p q < recordOffset p r) ∧ ∀ q ∈ after, recordOffset p r < recordOffset p q := by
  have hpairwise := insertRecord_pairwise r (hordered.imp Nat.le_of_lt)
  have hplace : insertRecord p r rs = _ := List.orderedInsert_eq_take_drop _ r rs
  have hsplit := List.takeWhile_append_dropWhile (p := fun b => decide ¬ recordOffset p r ≤ recordOffset p b) (l := rs)
  have hne : ∀ q ∈ rs, recordOffset p q ≠ recordOffset p r := fun q hq heq => hnew q hq ((recordOffset_inj p q r).1 heq)
  refine ⟨_, _, hsplit.symm, hplace, fun q hq => ?_, fun q hq => ?_⟩
  · have hafter : ¬ recordOffset p r ≤ recordOffset p q := by simpa using List.mem_takeWhile_imp hq
    omega
  · rw [hplace, List.pairwise_append] at hpairwise
    have hle := List.rel_of_pairwise_cons hpairwise.2.1 hq
    have hq' : q ∈ rs := hsplit ▸ List.mem_append_right _ hq
    exact lt_of_le_of_ne hle (hne q hq').symm

end

theorem byteOfNat_min_127 (o : Nat) : byteOfNat (min o 127) = if 127 < o then 127 else BitVec.ofNat 8 o := by
  by_cases h : 127 < o
  · rw [if_pos h, Nat.min_eq_right h.le]
    rfl
  · rw [if_neg h, Nat.min_eq_left (Nat.le_of_not_lt h)]
    rfl

/-- The flags byte carries the temperature flag in bit 0 (R165). -/
theorem flags_getLsbD (reserved : BitVec 7) (tempPresent : Bool) :
    (reserved ++ (if tempPresent then 1#1 else 0#1)).getLsbD 0 = tempPresent := by
  rw [BitVec.getLsbD_append]
  cases tempPresent <;> rfl

/-- Settles O50: the record read back whole, then the tests of R19 and the places of R20 and R21. -/
theorem jarFrameQueued : Obligations.JarFrameQueued := by
  intro source s hhunt hordered
  refine ⟨fun payload hlength hnone => ?_, fun r reserved hshort => ?_⟩
  · rw [exec_arrival_jar hhunt hlength, jarFrameArrival_none hnone]
  · have hread := parseRecord_recordBytes hshort (flags_getLsbD reserved r.tempPresent)
    have hlength : ((recordBytes r).set 8 (reserved ++ (if r.tempPresent then 1#1 else 0#1))).length ≤ 48 := by
      rw [List.length_set, length_recordBytes]
      omega
    refine ⟨_, exec_arrival_jar hhunt hlength, ?_⟩
    rw [jarFrameArrival_some hread]
    have hqueued (huntested : s.ptk.sync = .unsynced ∨
        1 ≤ recordOffset s.ptk.p r ∧ recordOffset s.ptk.p r ≤ 64) :
        recordArrival r (passed s) = queueRecord r (passed s) := recordArrival_untested (s := passed s) huntested
    refine ⟨fun hsynced hoffset => recordArrival_stale (s := passed s) hsynced hoffset, fun hsynced hlow hhigh => ?_,
      fun huntested hknown => ?_, fun huntested hnew hroom => ?_, fun huntested hnew hfull => ?_⟩
    · rw [recordArrival_skew (s := passed s) hsynced hlow hhigh, byteOfNat_min_127]
      rfl
    · rw [hqueued huntested, queueRecord_of_known (s := passed s) hknown]
      rfl
    · obtain ⟨before, after, hsplit, hinsert, hbefore, hafter⟩ := insertRecord_eq_append hordered.2 hnew
      refine ⟨before, after, hsplit, ?_, hbefore, hafter⟩
      rw [hqueued huntested, queueRecord_of_new (s := passed s) hnew, if_pos (by exact hroom), ← hinsert]
      rfl
    · rw [hqueued huntested, queueRecord_of_new (s := passed s) hnew, if_neg (by exact hfull.not_lt)]
      rfl

/-! ### The master's pitch (R9 to R11, R25) -/

section
variable {s : State} {m : Word} {payload mask : List Byte} {m1 m0 : Byte}

theorem pitchFrameArrival_of_master (h : mask.length = 8) :
    pitchFrameArrival (m1 :: m0 :: mask) s = takeMasterPitch (m1 ++ m0) s := if_pos h

/-- Only a payload of ten bytes is taken (R166). -/
theorem pitchFrameArrival_of_length (h : payload.length ≠ 10) : pitchFrameArrival payload s = s := by
  unfold pitchFrameArrival
  split
  next rest =>
    rw [if_neg]
    simpa using h
  next => rfl

/-- P taken from the master, the queue in its order, and SYNCED, before the removal of the stale records (R10). -/
def lockedOn (p : Word) (s : State) : State := (setPitch p s).setPtk { (setPitch p s).ptk with sync := .synced }

theorem takeMasterPitch_unsynced (h : s.ptk.sync = .unsynced) :
    takeMasterPitch m s = purgeBehind (lockedOn (m - s.configWord .pitchOffset) s) := by
  simp only [takeMasterPitch, h, lockedOn]

/-- Within the tolerance of one the master's pitch changes nothing (R11). -/
theorem takeMasterPitch_within (h : s.ptk.sync = .synced)
    (hlow : -1 ≤ (m - s.configWord .pitchOffset - s.ptk.p).toInt)
    (hhigh : (m - s.configWord .pitchOffset - s.ptk.p).toInt ≤ 1) : takeMasterPitch m s = s := by
  simp only [takeMasterPitch, h, hlow, hhigh, and_self, if_true]

/-- Outside the tolerance P is set and PITCH_SKEW is raised (R11). -/
theorem takeMasterPitch_skewed (h : s.ptk.sync = .synced)
    (hskew : (m - s.configWord .pitchOffset - s.ptk.p).toInt < -1 ∨
      1 < (m - s.configWord .pitchOffset - s.ptk.p).toInt) : takeMasterPitch m s =
    (setPitch (m - s.configWord .pitchOffset) s).raise .pitchSkew
      (skewDetail (m - s.configWord .pitchOffset - s.ptk.p).toInt) := by
  simp only [takeMasterPitch, h]
  exact if_neg (by omega)

theorem skewDetail_eq (d : Int) :
    skewDetail d = BitVec.ofInt 8 (if d < -127 then -127 else if 127 < d then 127 else d) := by
  refine congrArg (BitVec.ofInt 8) ?_
  rw [clampInt]
  split
  · omega
  · split <;> omega

/-- Once a code is active, raising it again changes nothing. -/
theorem foldl_raise_of_active {c : FaultCode} (detail : JarRecord → Byte) (rs : List JarRecord)
    (h : s.flt.active c = true) : (rs.foldl (fun t r => t.raise c (detail r)) s).flt = s.flt := by
  induction rs generalizing s with
  | nil => rfl
  | cons r rs ih =>
    have hraise : (s.raise c (detail r)).flt = s.flt := raise_of_active h
    rw [List.foldl_cons, ih (by rwa [hraise]), hraise]

/-- Of the records removed, the first in queue order is the one that is reported (R25). -/
theorem purgeBehind_flt_of_cons {r : JarRecord} {rest : List JarRecord}
    (h : s.ifq.filter (fun r => behind r.pitch s.ptk.p) = r :: rest) :
    (purgeBehind s).flt = s.flt.raise ⟨.infeedStale, s.ptk.p, lowByte r.pitch⟩ := by
  rw [purgeBehind, h, List.foldl_cons]
  exact foldl_raise_of_active (fun r => lowByte r.pitch) rest (active_raise_self _ _)

theorem purgeBehind_flt_of_none (h : ∀ r ∈ s.ifq, behind r.pitch s.ptk.p = false) : (purgeBehind s).flt = s.flt := by
  have hnone : s.ifq.filter (fun r => behind r.pitch s.ptk.p) = [] := by simpa using h
  rw [purgeBehind, hnone]
  rfl

theorem mem_purgeBehind_lockedOn (p : Word) (q : JarRecord) :
    q ∈ (purgeBehind (lockedOn p s)).ifq ↔ q ∈ s.ifq ∧ behind q.pitch p = false := by
  rw [purgeBehind_ifq, List.mem_filter, Bool.not_eq_true']
  exact and_congr_left' (orderRecords_perm p s.ifq).mem_iff

theorem purgeBehind_lockedOn_ptk (p : Word) :
    (purgeBehind (lockedOn p s)).ptk = { s.ptk with p := p, sync := .synced } := (purgeBehind_frame _).1

theorem purgeBehind_lockedOn_none {p : Word} (h : ∀ q ∈ s.ifq, behind q.pitch p = false) :
    (purgeBehind (lockedOn p s)).flt = s.flt :=
  purgeBehind_flt_of_none (s := lockedOn p s) fun q hq => h q ((orderRecords_perm p s.ifq).mem_iff.1 hq)

/-- The stale record with the least offset gives the detail (R25). -/
theorem purgeBehind_lockedOn_flt {p : Word} {q : JarRecord} (hq : q ∈ s.ifq) (hstale : behind q.pitch p = true)
    (hleast : ∀ q' ∈ s.ifq, behind q'.pitch p = true → recordOffset p q ≤ recordOffset p q') :
    (purgeBehind (lockedOn p s)).flt = s.flt.raise ⟨.infeedStale, p, lowByte q.pitch⟩ := by
  obtain ⟨r, rest, hfirst, hpitch⟩ := filter_orderRecords_eq_cons (sel := fun r => behind r.pitch p) hq hstale hleast
  rw [← hpitch]
  exact purgeBehind_flt_of_cons (s := lockedOn p s) hfirst

theorem pitchFrameArrival_eq (payload : List Byte) (s : State) : pitchFrameArrival payload s =
    ((s.setPtk (pitchFrameArrival payload s).ptk).setIfq (pitchFrameArrival payload s).ifq).setFlt
      (pitchFrameArrival payload s).flt := by
  obtain ⟨hcfg, hheads, hvalves, hspu, hrcs, hofl, hscu, hdsu, hlif, haddress, hpins, hpending⟩ :=
    pitchFrameArrival_frame s payload
  exact state_eq rfl hcfg rfl hheads hvalves hspu hrcs hofl hscu hdsu hlif rfl haddress hpins hpending

/-- What a PITCH frame leaves when it has been tracked and forwarded. -/
theorem forwarded_pitchFrame (hserved : PortServed s) (payload : List Byte) (f : SealedFrame) :
    Forwarded (s.setFlt (pitchFrameArrival payload s).flt) f (forwardFrame f (pitchFrameArrival payload s)).lif := by
  rw [pitchFrameArrival_eq payload s]
  exact forwarded_forwardFrame
    (s := ((s.setPtk (pitchFrameArrival payload s).ptk).setIfq (pitchFrameArrival payload s).ifq).setFlt
      (pitchFrameArrival payload s).flt) hserved

theorem exec_arrival_pitch {source : Byte} (hhunt : s.lif.receiver = .hunt) (hsource : source ≠ s.address)
    (hstation : s.address ≠ 0) (hroom : s.lif.passFifo.length < 12) (h : payload.length ≤ 48) :
    exec (arrival ⟨0, source, 1, payload⟩) s =
      .next (forwardFrame (sealFrame ⟨0, source, 1, payload⟩) (pitchFrameArrival payload (passed s))) := by
  have haction : dispatchAction s.address ⟨0, source, 1, payload⟩ = .trackAndForward := by
    rw [dispatchAction, if_neg hstation.symm, if_neg hsource, if_pos rfl, if_pos (by rfl)]
  rw [exec_arrival h hhunt fun _ => hroom]
  exact congrArg Host.Outcome.next (dispatch_of_track (s := passed s) (f := sealFrame ⟨0, source, 1, payload⟩) haction)

end

/-- Settles O49: the pitch taken or corrected on the state whose window took the frame, then the frame forwarded. -/
theorem pitchFrameTracked : Obligations.PitchFrameTracked := by
  intro source payload s hhunt hsource hstation hserved hroom hlength
  refine ⟨_, exec_arrival_pitch hhunt hsource hstation hroom hlength, ?_⟩
  obtain ⟨hptk, -, hifq, -, -, -, -, -, -, -, hflt, -⟩ :=
    forwardFrame_frame (pitchFrameArrival payload (passed s)) (sealFrame ⟨0, source, 1, payload⟩)
  rw [hptk, hifq, hflt]
  refine ⟨?frame, forwarded_pitchFrame (s := passed s) hserved payload _, fun hother => ?other,
    fun m1 m0 mask hpayload hten => ?_⟩
  case frame =>
    refine (forwardFrame_eq_setLif _ _).trans ?_
    exact (congrArg (fun u : State => u.setLif _) (pitchFrameArrival_eq payload (passed s))).trans rfl
  case other =>
    rw [pitchFrameArrival_of_length hother]
    exact ⟨rfl, rfl, rfl⟩
  subst hpayload
  rw [pitchFrameArrival_of_master (by simpa using hten)]
  refine ⟨fun hunsynced => ?_, fun hsynced hlow hhigh => ?_, fun hsynced hskew => ?_⟩
  · rw [takeMasterPitch_unsynced (s := passed s) hunsynced]
    exact ⟨purgeBehind_lockedOn_ptk (s := passed s) _, mem_purgeBehind_lockedOn (s := passed s) _,
      purgeBehind_lockedOn_none (s := passed s), fun q => purgeBehind_lockedOn_flt (s := passed s)⟩
  · rw [takeMasterPitch_within (s := passed s) hsynced hlow hhigh]
    exact ⟨rfl, rfl, rfl⟩
  · rw [takeMasterPitch_skewed (s := passed s) hsynced hskew, ← skewDetail_eq]
    exact ⟨rfl, orderRecords_perm _ s.ifq, rfl⟩

/-! ### Requests by frame (R149, R150, R165) -/

section
variable {s : State} {code tag : Byte} {arguments : List Byte}

theorem wordsOf_wordBytes (words : List Word) : wordsOf (words.flatMap wordBytes) = words := by
  induction words with
  | nil => rfl
  | cons w words ih =>
    rw [List.flatMap_cons]
    change (highByte w ++ lowByte w) :: wordsOf (words.flatMap wordBytes) = _
    rw [highByte_append_lowByte, ih]

theorem length_wordBytes (words : List Word) : (words.flatMap wordBytes).length = 2 * words.length := by
  induction words with
  | nil => rfl
  | cons w words ih =>
    rw [List.flatMap_cons, List.length_append, ih, List.length_cons]
    change 2 + _ = _
    omega

theorem parseRequest_write {count : Byte} {words : List Word} (h : words.length = count.toNat) :
    parseRequest (5 :: tag :: count :: words.flatMap wordBytes) = .write tag count words := by
  have hbytes : (words.flatMap wordBytes).length = 2 * count.toNat := by rw [length_wordBytes, h]
  have harguments : parseArguments 5 tag (count :: words.flatMap wordBytes) = some (.write tag count words) :=
    (if_pos hbytes).trans (by rw [wordsOf_wordBytes])
  exact congrArg (fun r : Option Request => r.getD (.refused 5 tag .lengthError)) harguments

/-- Arguments that are read have the length of their row; those of a WRITE have the length that their count gives. -/
theorem length_of_parseArguments {r : Request} (h : parseArguments code tag arguments = some r) :
    (code.toNat = 5 → ∃ (n : Byte) (bytes : List Byte), arguments = n :: bytes ∧ bytes.length = 2 * n.toNat) ∧
    (code.toNat ≠ 5 →
      arguments.length + 2 = [2, 2, 3, 6, 0, 3, 4, 4, 4, 2, 2].getD (code.toNat - 1) 0) := by
  unfold parseArguments at h
  split at h
  case h_5 hcode =>
    refine ⟨fun _ => ?_, fun hother => absurd hcode hother⟩
    split at h
    next n bytes =>
      split at h
      next hlength => exact ⟨n, bytes, rfl, hlength⟩
      next => cases h
    next => cases h
  case h_12 => cases h
  all_goals
    rename_i hcode
    rw [hcode]
    split at h
    next => exact ⟨fun hwrite => absurd hwrite (by decide), fun _ => by simp [*]⟩
    next => cases h

/-- A known code with arguments of another length (R149). -/
theorem parseRequest_of_length (hlow : 1 ≤ code.toNat) (hhigh : code.toNat ≤ 11)
    (hother : code ≠ 5 → arguments.length + 2 ≠ [2, 2, 3, 6, 0, 3, 4, 4, 4, 2, 2].getD (code.toNat - 1) 0)
    (hwrite : code = 5 → ∀ (n : Byte) (bytes : List Byte), arguments = n :: bytes → bytes.length ≠ 2 * n.toNat) :
    parseRequest (code :: tag :: arguments) = .refused code tag .lengthError := by
  have hnone : parseArguments code tag arguments = none := by
    refine Option.eq_none_iff_forall_ne_some.2 fun r hr => ?_
    obtain ⟨hfive, hrow⟩ := length_of_parseArguments hr
    by_cases hcode : code = 5
    · obtain ⟨n, bytes, harguments, hlength⟩ := hfive (hcode ▸ rfl)
      exact hwrite hcode n bytes harguments hlength
    · exact hother hcode (hrow fun hfive => hcode (BitVec.eq_of_toNat_eq hfive))
  rw [parseRequest, if_neg (by omega), hnone]
  rfl

/-- A REQ frame acts as the request that its payload is read as. -/
theorem exec_arrival_of_parse {source : Byte} {payload : List Byte} {r : Request} (hhunt : s.lif.receiver = .hunt)
    (hlength : payload.length ≤ 48) (hread : parseRequest payload = r) :
    exec (arrival ⟨s.address, source, 3, payload⟩) s = .next (runRequest r (passed s)) := by
  rw [exec_arrival_request hhunt hlength, takeRequest, hread]

end

/-- Settles O43: the row of R150 that the payload is read as, carried out on the state whose window took the frame. -/
theorem requestFrameCarriesOut : Obligations.RequestFrameCarriesOut := by
  intro source tag s hhunt
  have hsent {payload : List Byte} {r : Request} (hread : parseRequest payload = r) (hlength : payload.length ≤ 48) :=
    exec_arrival_of_parse (source := source) hhunt hlength hread
  refine ⟨hsent (r := .status tag) rfl (by simp), hsent (r := .faults tag) rfl (by simp),
    fun code => hsent (r := .clearFault tag code) rfl (by simp),
    fun which table i1 i0 => hsent (r := .cursor tag which table (i1 ++ i0)) rfl (by simp), ?write,
    fun count => hsent (r := .read tag count) rfl (by simp), fun s1 s0 => hsent (r := .commit tag (s1 ++ s0)) rfl (by simp),
    fun head value => hsent (r := .headService tag head value) rfl (by simp),
    fun v1 v0 => hsent (r := .seedAudit tag (v1 ++ v0)) rfl (by simp), hsent (r := .clearTallies tag) rfl (by simp),
    hsent (r := .resetStation tag) rfl (by simp), ?unknown, ?refused⟩
  case write =>
    intro count words hcount hfits
    refine hsent (parseRequest_write hcount) ?_
    simp only [List.length_cons, length_wordBytes]
    omega
  case unknown => exact fun payload _ hlength => exec_arrival_request hhunt hlength
  case refused =>
    intro code arguments hserved hlow hhigh hlength hother hwrite
    refine ⟨_, hsent (parseRequest_of_length hlow hhigh hother hwrite) (by simp; omega), ?_⟩
    exact respond_answers (s := passed s) hserved code tag .lengthError []

end Sys2Proof.Machine
end
